-- ==== Sys2Proof/Word.lean ====
section
/-! DEFINITION. The byte of the framer and the reading of one byte of a byte sequence.
Rule R15 of 00_scope.md: a byte is an unsigned integer 0 to 255; rule R16 numbers its bits. -/

namespace Sys2Proof

/-- A byte (rules R15, R16): bit 0 is the least significant bit. -/
abbrev Byte := BitVec 8

/-- Byte `i` of a sequence (rule R17). Past the end it is zero; no rule reads past the end of a
packet, and the buffer always has `BUF_LEN` bytes. -/
def byteAt (bs : List Byte) (i : Nat) : Byte := bs.getD i 0

end Sys2Proof
end

