-- ==== Sys2Proof/Config.lean ====
section
/-! DEFINITION. What an implementation fixes (rule R12 of 00_scope.md), and the free values.

The configuration is ONE record. The machine carries it in a field of its state that no step writes,
so that every statement holds for both scan layouts, both angle orders, every shift bound and every
length the source leaves OPEN. -/

namespace Sys2Proof

/-- `SCAN_LAYOUT` (rules R12, R95, R96, R102): where the scan checksum sits. -/
inductive ScanLayout where
  | l6
  | l5
  deriving DecidableEq, Repr

/-- `ANGLE_ORDER` (rules R12, R68, R99): which angle byte comes first on the wire. -/
inductive AngleOrder where
  | le
  | be
  deriving DecidableEq, Repr

/-- The configuration record of rule R12. The two OPEN lengths are held as the number of payload
bytes after the two echo bytes, so that each packet has at least 2 bytes by its type (rules R12,
R97, R196). -/
structure Config where
  scanLayout      : ScanLayout
  angleOrder      : AngleOrder
  maxShifts       : Nat
  motorPayloadLen : Nat
  ratePayloadLen  : Nat
  deriving DecidableEq, Repr

/-- OPEN (rules R12, R196): `MOTOR_INFO_LEN - 2`. The source gives no number, so this constant has no
body and nothing can be proved of its value. Assumption log 3. -/
opaque Config.openMotorPayload : Nat

/-- OPEN (rules R12, R196): `RATE_INFO_LEN - 2`. Assumption log 3. -/
opaque Config.openRatePayload : Nat

/-- FREE VALUE (rules R62, R65, R51; 93_implementation_defined.md U3, U9): the draws for how many
bytes a failed or abandoned transport transaction moved. The machine applies it to a counter of its
state. Assumption log 4. -/
opaque Config.freeDraw : Nat → Nat

/-- The configuration the spec decides: layout L6, little-endian angle, 100 shifts (rules R12, R13),
and the two OPEN lengths left open. -/
def Config.documented : Config where
  scanLayout := .l6
  angleOrder := .le
  maxShifts := 100
  motorPayloadLen := Config.openMotorPayload
  ratePayloadLen := Config.openRatePayload

end Sys2Proof
end

