-- ==== Sys2Proof/Syntax.lean ====
section
/-! DEFINITION. The instruction set as data: one constructor of `Instr` per row of
spec/opcode_table.json, and the table's formats.

The framer has no stored program (rule R1). The table has three kinds of rows, and an "instruction"
here is one input of each kind:
* a HOSTOP row is a host operation, one START (rules R40, R110);
* a CMD2 row is a command-code constant, which the host puts in its code operand (rule R200, the head
  of 44_command_codes.md);
* a WIRE row is one packet crossing the boundary to the transport (rules R91 to R97). -/

namespace Sys2Proof

/-- Where a START takes the operands `(c0, c1, a0, a1)` of rule R40 from. -/
inductive Operands where
  /-- the host's own copy as it stands: the port values `h_code`, `h_arg` (rules R52, R81) -/
  | ports
  /-- four bytes supplied with the START, which the host's ports then also show (rules R40, R117) -/
  | given (c0 c1 a0 a1 : Byte)
  deriving DecidableEq, Repr

/-- The table's "format" column (WIRE_SCAN is split by layout, since the two have different
encodings). Bits alone do not tell the formats apart (rule R116: "There is no way to tell from the
stream alone which kind of packet comes next"), so an encoded instruction is a format and its
bytes. -/
inductive Format where
  | hostop
  | cmd2
  | wireBare
  | wireArgpkt
  | wireHdr
  | wirePrm
  | wireScanL6
  | wireScanL5
  | wireInfo
  deriving DecidableEq, Repr

/-- The formats of what the host does (rules R22, R81): it starts operations, names constants, and an
outbound packet is on the stream because it started the operation that writes it (assumption log 9). -/
inductive HostFormat where
  | hostop
  | cmd2
  | wireBare
  | wireArgpkt
  deriving DecidableEq, Repr

/-- The formats of what arrives from the transport (rules R22, R93 to R97). -/
inductive ArrivalFormat where
  | wireHdr
  | wirePrm
  | wireScanL6
  | wireScanL5
  | wireInfo
  deriving DecidableEq, Repr

/-- One constructor per row of spec/opcode_table.json. -/
inductive Instr where
  /-- WRCMD (R131): send a bare command packet -/
  | wrcmd (x : Operands)
  /-- WRARG (R132): send an argument command packet -/
  | wrarg (x : Operands)
  /-- RDHDR (R145): read a header response -/
  | rdhdr (x : Operands)
  /-- RDPRM (R146): read a param response -/
  | rdprm (x : Operands)
  /-- RDSCAN (R163): read a scan record, with resynchronization -/
  | rdscan (x : Operands)
  /-- RDMOTOR (R192): read a motor info response -/
  | rdmotor (x : Operands)
  /-- RDRATE (R193): read a sample-rate info response -/
  | rdrate (x : Operands)
  /-- "DS" (R201) -/
  | dataAcquisitionStart
  /-- "DX" (R202) -/
  | dataAcquisitionStop
  /-- "MS" (R203) -/
  | motorSpeedAdjust
  /-- "MI" (R204) -/
  | motorInformation
  /-- "LR" (R205) -/
  | sampleRateAdjust
  /-- "LI" (R206) -/
  | sampleRateInformation
  /-- "IV" (R207) -/
  | versionInformation
  /-- "ID" (R208) -/
  | deviceInformation
  /-- "RR" (R209) -/
  | resetDevice
  /-- "CS" (R210) -/
  | deviceCalibration
  /-- BARE (R91): cmd bytes `c`, `d`, terminator -/
  | bare (c d : Byte)
  /-- ARGPKT (R92): cmd bytes `c`, `d`, argument bytes `a`, `b`, terminator -/
  | argpkt (c d a b : Byte)
  /-- HDR (R93): echo `c`, `d`, status bytes `p`, `q`, checksum `k` -/
  | hdr (c d p q k : Byte)
  /-- PRM (R94): the layout of HDR -/
  | prm (c d p q k : Byte)
  /-- SCAN_L6 (R95): distance_low `l`, VHL `v`, distance_high `h`, angle bytes `a`, `b` in wire order,
  VRECT `r`, the unnamed nibble `x`, checksum byte `k` -/
  | scanL6 (l : BitVec 5) (v : BitVec 1) (h a b : Byte) (r x : BitVec 4) (k : Byte)
  /-- SCAN_L5 (R96): the fields of SCAN_L6 but for the nibble and a four-bit checksum `k` -/
  | scanL5 (l : BitVec 5) (v : BitVec 1) (h a b : Byte) (r k : BitVec 4)
  /-- INFO (R97): echo `c`, `d` and the raw payload -/
  | info (c d : Byte) (payload : List Byte)
  deriving DecidableEq, Repr

end Sys2Proof
end

