-- ==== Sys2Proof/WellFormed.lean ====
section
/-! DEFINITION. Which instructions a configuration admits.

The fields of an instruction are in range by their types. What is left to check is against the
configuration of rule R12: the layout of a scan record (rules R95, R96) and the length of an info
packet (rule R97). The machine does not ask for it: bytes of any shape can arrive from the transport
(rule R23), and a packet the configuration does not admit still moves as bytes. -/

namespace Sys2Proof

/-- The instruction is one that the configuration admits. -/
def WellFormed (cfg : Config) : Instr → Bool
  | .wrcmd _ => true
  | .wrarg _ => true
  | .rdhdr _ => true
  | .rdprm _ => true
  | .rdscan _ => true
  | .rdmotor _ => true
  | .rdrate _ => true
  | .dataAcquisitionStart => true
  | .dataAcquisitionStop => true
  | .motorSpeedAdjust => true
  | .motorInformation => true
  | .sampleRateAdjust => true
  | .sampleRateInformation => true
  | .versionInformation => true
  | .deviceInformation => true
  | .resetDevice => true
  | .deviceCalibration => true
  | .bare _ _ => true
  | .argpkt _ _ _ _ => true
  | .hdr _ _ _ _ _ => true
  | .prm _ _ _ _ _ => true
  | .scanL6 _ _ _ _ _ _ _ _ => decide (cfg.scanLayout = .l6)
  | .scanL5 _ _ _ _ _ _ _ => decide (cfg.scanLayout = .l5)
  | .info _ _ payload =>
      decide (payload.length = cfg.motorPayloadLen) || decide (payload.length = cfg.ratePayloadLen)

end Sys2Proof
end

