-- ==== Sys2Proof/Decode.lean ====
section
/-! DEFINITION. The lengths and constants of the packets (rule R12), the packet layouts (rules R91 to
R97), the command-code table (rule R200), the decoder from a format and its bytes to an instruction,
and the encoder. -/

namespace Sys2Proof

/-! ### Lengths and constants of rule R12 -/

/-- `TERMINATOR` (rules R12, R103): the line feed that ends both command packets. -/
def terminator : Byte := 0x0A#8

/-- `BARE_LEN` (rules R12, R91). -/
def bareLen : Nat := 3

/-- `ARGPKT_LEN` (rules R12, R92). -/
def argpktLen : Nat := 5

/-- `HEADER_LEN` (rules R12, R93). -/
def headerLen : Nat := 5

/-- `PARAM_LEN` (rules R12, R94). -/
def paramLen : Nat := 5

/-- `RECORD_LEN` (rules R12, R95, R96), abbreviated `N` in 42_scan_resync.md. -/
def recordLen (cfg : Config) : Nat :=
  match cfg.scanLayout with
  | .l6 => 6
  | .l5 => 5

/-- `MOTOR_INFO_LEN` (rules R12, R97): at least 2. -/
def motorInfoLen (cfg : Config) : Nat := cfg.motorPayloadLen + 2

/-- `RATE_INFO_LEN` (rules R12, R97): at least 2. -/
def rateInfoLen (cfg : Config) : Nat := cfg.ratePayloadLen + 2

/-- `BUF_LEN` (rule R12): the capacity of BUF and RES. -/
def bufLen (cfg : Config) : Nat :=
  max headerLen (max paramLen (max (recordLen cfg)
    (max (motorInfoLen cfg) (max (rateInfoLen cfg) argpktLen))))

/-! ### Packet layouts -/

/-- Format BARE (rule R91), first wire byte first. -/
def packBare (c d : Byte) : List Byte := [c, d, terminator]

/-- Format ARGPKT (rule R92). -/
def packArgpkt (c d a b : Byte) : List Byte := [c, d, a, b, terminator]

/-- Formats HDR and PRM (rules R93, R94). -/
def packResponse (c d p q k : Byte) : List Byte := [c, d, p, q, k]

/-- Byte 0 of an accepted scan record (rules R95, R98): distance_low in bits 7:3, VHL in bit 2,
`s2 = 0` in bit 1, `s1 = 1` in bit 0. -/
def packSync (l : BitVec 5) (v : BitVec 1) : Byte := (l ++ v ++ 0b01#2 : BitVec 8)

/-- Format SCAN, layout L6 (rule R95). -/
def packScanL6 (l : BitVec 5) (v : BitVec 1) (h a b : Byte) (r x : BitVec 4) (k : Byte) :
    List Byte :=
  [packSync l v, h, a, b, (r ++ x : BitVec 8), k]

/-- Format SCAN, layout L5 (rule R96). -/
def packScanL5 (l : BitVec 5) (v : BitVec 1) (h a b : Byte) (r k : BitVec 4) : List Byte :=
  [packSync l v, h, a, b, (r ++ k : BitVec 8)]

/-- Format INFO (rule R97). -/
def packInfo (c d : Byte) (payload : List Byte) : List Byte := c :: d :: payload

/-! ### Decoding -/

/-- Why bytes are no instruction of a format. -/
inductive DecodeError where
  /-- `OPSEL = 0` (rule R112): reserved, selects nothing -/
  | reservedOpsel
  /-- an operation number above 7 (93_implementation_defined.md U1): OPSEL has three bits -/
  | opselOutOfRange
  /-- two bytes that are none of the ten constants of rule R200 -/
  | unknownConstant
  /-- the last byte of a command packet is not the terminator (rules R91, R92) -/
  | badTerminator
  /-- byte 0 of a scan record does not carry `s1 = 1`, `s2 = 0` (rules R95, R96, R114) -/
  | badSync
  /-- the format has no packet of this length (rules R90, R116) -/
  | badLength
  deriving DecidableEq, Repr

/-- The operation that a host operation number selects, given its operands (rules R110, R112). -/
def decodeOpsel (op : Byte) (x : Operands) : Except DecodeError Instr :=
  match op.toNat with
  | 0 => .error .reservedOpsel
  | 1 => .ok (.wrcmd x)
  | 2 => .ok (.wrarg x)
  | 3 => .ok (.rdhdr x)
  | 4 => .ok (.rdprm x)
  | 5 => .ok (.rdscan x)
  | 6 => .ok (.rdmotor x)
  | 7 => .ok (.rdrate x)
  | _ => .error .opselOutOfRange

/-- The constant that two bytes stand for (rule R200), the first letter first. -/
def decodeConstant (c d : Byte) : Except DecodeError Instr :=
  match c.toNat, d.toNat with
  | 0x44, 0x53 => .ok .dataAcquisitionStart
  | 0x44, 0x58 => .ok .dataAcquisitionStop
  | 0x4D, 0x53 => .ok .motorSpeedAdjust
  | 0x4D, 0x49 => .ok .motorInformation
  | 0x4C, 0x52 => .ok .sampleRateAdjust
  | 0x4C, 0x49 => .ok .sampleRateInformation
  | 0x49, 0x56 => .ok .versionInformation
  | 0x49, 0x44 => .ok .deviceInformation
  | 0x52, 0x52 => .ok .resetDevice
  | 0x43, 0x53 => .ok .deviceCalibration
  | _, _ => .error .unknownConstant

/-- The fields of byte 0 of a scan record (rule R98): distance_low and VHL. -/
def syncDistanceLow (b : Byte) : BitVec 5 := b.extractLsb' 3 5

/-- VHL of byte 0 of a scan record (rule R98). -/
def syncVhl (b : Byte) : BitVec 1 := b.extractLsb' 2 1

/-- The high nibble of a byte, bits 7:4 (rule R16). -/
def hiNibble (b : Byte) : BitVec 4 := b.extractLsb' 4 4

/-- The low nibble of a byte, bits 3:0 (rule R16). -/
def loNibble (b : Byte) : BitVec 4 := b.extractLsb' 0 4

/-- The sync bits of byte 0 are `s1 = 1`, `s2 = 0` (rule R160). -/
def syncBitsOk (b : Byte) : Bool := b &&& 0x03#8 == 0x01#8

/-- The decoder: total on every format and every byte sequence, refusing by name. A host operation is
its number followed by the four operand bytes `CODE0, CODE1, ARG0, ARG1` (rule R117), or its number
alone, which takes the operands from the host's ports. -/
def decode : Format → List Byte → Except DecodeError Instr
  | .hostop, [op] => decodeOpsel op .ports
  | .hostop, [op, c0, c1, a0, a1] => decodeOpsel op (.given c0 c1 a0 a1)
  | .cmd2, [c, d] => decodeConstant c d
  | .wireBare, [c, d, t] => if t = terminator then .ok (.bare c d) else .error .badTerminator
  | .wireArgpkt, [c, d, a, b, t] =>
      if t = terminator then .ok (.argpkt c d a b) else .error .badTerminator
  | .wireHdr, [c, d, p, q, k] => .ok (.hdr c d p q k)
  | .wirePrm, [c, d, p, q, k] => .ok (.prm c d p q k)
  | .wireScanL6, [b0, h, a, b, b4, k] =>
      if syncBitsOk b0 then
        .ok (.scanL6 (syncDistanceLow b0) (syncVhl b0) h a b (hiNibble b4) (loNibble b4) k)
      else .error .badSync
  | .wireScanL5, [b0, h, a, b, b4] =>
      if syncBitsOk b0 then
        .ok (.scanL5 (syncDistanceLow b0) (syncVhl b0) h a b (hiNibble b4) (loNibble b4))
      else .error .badSync
  | .wireInfo, c :: d :: payload => .ok (.info c d payload)
  | _, _ => .error .badLength

/-- The format of a word of the host. -/
def hostFormat : HostFormat → Format
  | .hostop => .hostop
  | .cmd2 => .cmd2
  | .wireBare => .wireBare
  | .wireArgpkt => .wireArgpkt

/-- The format of a packet that arrives. -/
def arrivalFormat : ArrivalFormat → Format
  | .wireHdr => .wireHdr
  | .wirePrm => .wirePrm
  | .wireScanL6 => .wireScanL6
  | .wireScanL5 => .wireScanL5
  | .wireInfo => .wireInfo

/-- Whose word a format is: the host's or the transport's. -/
def formatSide : Format → HostFormat ⊕ ArrivalFormat
  | .hostop => .inl .hostop
  | .cmd2 => .inl .cmd2
  | .wireBare => .inl .wireBare
  | .wireArgpkt => .inl .wireArgpkt
  | .wireHdr => .inr .wireHdr
  | .wirePrm => .inr .wirePrm
  | .wireScanL6 => .inr .wireScanL6
  | .wireScanL5 => .inr .wireScanL5
  | .wireInfo => .inr .wireInfo

/-! ### Encoding -/

/-- The bytes of a host operation: its number (rule R110) and, when it carries them, its operands in
the order of rule R117. -/
def encodeOp (op : Byte) : Operands → List Byte
  | .ports => [op]
  | .given c0 c1 a0 a1 => [op, c0, c1, a0, a1]

/-- The format and the bytes of an instruction, from rules R91 to R97, R110 and R200. -/
def encode : Instr → Format × List Byte
  | .wrcmd x => (.hostop, encodeOp 1#8 x)
  | .wrarg x => (.hostop, encodeOp 2#8 x)
  | .rdhdr x => (.hostop, encodeOp 3#8 x)
  | .rdprm x => (.hostop, encodeOp 4#8 x)
  | .rdscan x => (.hostop, encodeOp 5#8 x)
  | .rdmotor x => (.hostop, encodeOp 6#8 x)
  | .rdrate x => (.hostop, encodeOp 7#8 x)
  | .dataAcquisitionStart => (.cmd2, [0x44#8, 0x53#8])
  | .dataAcquisitionStop => (.cmd2, [0x44#8, 0x58#8])
  | .motorSpeedAdjust => (.cmd2, [0x4D#8, 0x53#8])
  | .motorInformation => (.cmd2, [0x4D#8, 0x49#8])
  | .sampleRateAdjust => (.cmd2, [0x4C#8, 0x52#8])
  | .sampleRateInformation => (.cmd2, [0x4C#8, 0x49#8])
  | .versionInformation => (.cmd2, [0x49#8, 0x56#8])
  | .deviceInformation => (.cmd2, [0x49#8, 0x44#8])
  | .resetDevice => (.cmd2, [0x52#8, 0x52#8])
  | .deviceCalibration => (.cmd2, [0x43#8, 0x53#8])
  | .bare c d => (.wireBare, packBare c d)
  | .argpkt c d a b => (.wireArgpkt, packArgpkt c d a b)
  | .hdr c d p q k => (.wireHdr, packResponse c d p q k)
  | .prm c d p q k => (.wirePrm, packResponse c d p q k)
  | .scanL6 l v h a b r x k => (.wireScanL6, packScanL6 l v h a b r x k)
  | .scanL5 l v h a b r k => (.wireScanL5, packScanL5 l v h a b r k)
  | .info c d payload => (.wireInfo, packInfo c d payload)

/-- The encoded lengths a format admits (rules R90, R116): fixed, but for an info packet, whose length
is an OPEN parameter of at least 2 (rule R97), and for a host operation, which carries its operands
or takes them from the ports. -/
def formatAdmitsLength : Format → Nat → Bool
  | .hostop, n => n == 1 || n == 5
  | .cmd2, n => n == 2
  | .wireBare, n => n == bareLen
  | .wireArgpkt, n => n == argpktLen
  | .wireHdr, n => n == headerLen
  | .wirePrm, n => n == paramLen
  | .wireScanL6, n => n == 6
  | .wireScanL5, n => n == 5
  | .wireInfo, n => decide (2 ≤ n)

/-! ### The opcode table's numbering -/

/-- The `n` bytes of the number `w`, the most significant first: the table writes a row of more than
one byte as one number with the first wire byte at the left. -/
def bytesOfWord : Nat → Nat → List Byte
  | 0, _ => []
  | n + 1, w => BitVec.ofNat 8 (w >>> (8 * n)) :: bytesOfWord n w

/-- Where the opcode table's word `w` of `nbits` bits goes: its format and its bytes (assumption log
10). A HOSTOP row has the OPSEL bits of the first byte, and its operand bytes are then zero; a CMD2
row has two bytes. Wire rows are told apart by their length and their fixed bits as far as the bits
can tell them (rule R116); PRM has HDR's layout, so a word of it reads as HDR. -/
def tableSlot (nbits w : Nat) : Format × List Byte :=
  if nbits ≤ 8 then (.hostop, [BitVec.ofNat 8 w, 0#8, 0#8, 0#8, 0#8])
  else
    let bs := bytesOfWord (nbits / 8) w
    if nbits = 16 then (.cmd2, bs)
    else if nbits = 24 then
      (if byteAt bs 2 = terminator then (.wireBare, bs) else (.wireInfo, bs))
    else if nbits = 40 then
      (if byteAt bs 4 = terminator then (.wireArgpkt, bs)
       else if syncBitsOk (byteAt bs 0) then (.wireScanL5, bs)
       else (.wireHdr, bs))
    else if nbits = 48 then (.wireScanL6, bs)
    else (.wireInfo, bs)

/-- The instruction the decoder reads from a word of the opcode table. -/
def decodeTableWord (nbits w : Nat) : Option Instr :=
  match decode (tableSlot nbits w).1 (tableSlot nbits w).2 with
  | .ok i => some i
  | .error _ => none

end Sys2Proof
end

