-- ==== Sys2Proof/Machine/State.lean ====
section
/-! DEFINITION. The machine's state as plain data, its reset, and the reasons a step can stop.

Rule R30 of 10_state.md lists the framer's whole state. Beside it stand, as plain data, the other two
agents of rule R22: the host (its program, and its own copy of the operands, rule R81) and the
transport (its two streams and its answers, rules R60 to R65). -/

namespace Sys2Proof.Machine

/-- The eight values of the 3-bit register `OPSEL` (rules R31, R110, R112). -/
inductive OpSel where
  | reserved
  | wrcmd
  | wrarg
  | rdhdr
  | rdprm
  | rdscan
  | rdmotor
  | rdrate
  deriving DecidableEq, Repr

/-- The five values `PHASE` takes (rule R36); 5 to 7 are never taken (rule R112). -/
inductive Phase where
  | idle
  | write
  | fill
  | check
  | refill
  deriving DecidableEq, Repr

/-- The fifteen values `STATUS` takes (rule R217); 15 is never produced. -/
inductive Status where
  | ok
  | writeCmd
  | writeArgs
  | readHeader
  | headerChecksum
  | headerCmd
  | readParam
  | paramChecksum
  | paramCmd
  | scanRead
  | scanBound
  | readMotor
  | motorCmd
  | readRate
  | rateCmd
  deriving DecidableEq, Repr

/-- The transport's answer to one transaction (rules R19, R61). -/
inductive Answer where
  | ok
  | fail
  deriving DecidableEq, Repr

/-- The three agents that take steps (rule R22). -/
inductive Agent where
  | framer
  | host
  | transport
  deriving DecidableEq, Repr

/-- One thing the host does (rule R22), not yet done. -/
inductive HostInput where
  /-- an encoded instruction of the host: a START, a constant named, an outbound packet -/
  | word (f : HostFormat) (bytes : List Byte)
  /-- the block's reset input is asserted (rules R51, R235) -/
  | reset
  /-- the host reads RES (rules R22, R274) -/
  | readRes
  /-- the host asks for the message of STATUS (rules R215, R218) -/
  | readMessage
  deriving DecidableEq, Repr

/-- One thing the transport does (rules R22, R23), not yet done. -/
inductive TransportInput where
  /-- a packet arrives on the inbound stream -/
  | word (f : ArrivalFormat) (bytes : List Byte)
  /-- raw bytes arrive on the inbound stream (rules R23, R60; any bytes, 93_implementation_defined.md U20) -/
  | line (bytes : List Byte)
  /-- the transport settles its answer to the next transaction it has not answered (rule R23) -/
  | answer (a : Answer)
  deriving DecidableEq, Repr

/-- The whole state. -/
structure State where
  /-- the configuration (rule R12); no step writes it (rule R46) -/
  cfg : Config
  /-- `OPSEL` (rule R31) -/
  opsel : OpSel
  /-- `CODE0` (rule R32) -/
  code0 : Byte
  /-- `CODE1` (rule R32) -/
  code1 : Byte
  /-- `ARG0` (rule R33) -/
  arg0 : Byte
  /-- `ARG1` (rule R33) -/
  arg1 : Byte
  /-- `PHASE` (rule R36), the sequencer's place, which plays the part of a program counter -/
  phase : Phase
  /-- `BUF` (rule R34), `BUF_LEN` bytes -/
  buf : List Byte
  /-- `SHIFTS` (rule R37) -/
  shifts : Nat
  /-- `STATUS` (rule R38) -/
  status : Status
  /-- `DONE` (rule R39) -/
  done : Bool
  /-- `RES` (rule R35): the accepted packet, or no value -/
  res : Option (List Byte)
  /-- `RES_LEN` (rule R35) -/
  resLen : Nat
  /-- the host's copy of the operands, low half of `h_code` (rules R52, R81) -/
  hostCode0 : Byte
  /-- high half of `h_code` -/
  hostCode1 : Byte
  /-- low half of `h_arg` -/
  hostArg0 : Byte
  /-- high half of `h_arg` -/
  hostArg1 : Byte
  /-- the ghost counter CONSUMED (rule R45) -/
  consumed : Nat
  /-- the transport: bytes that have arrived and that no read has taken, oldest first (rules R60, R64) -/
  inbound : List Byte
  /-- the transport: how many bytes to come a failed read has already lost (rule R65; the stream's position
  may stand past the bytes that have arrived, assumption log 4) -/
  skip : Nat
  /-- the transport: every byte written so far, oldest first (rules R60, R62) -/
  outbound : List Byte
  /-- the transport: its answers to the coming transactions, the next one first (rule R23) -/
  answers : List Answer
  /-- the host: what it will do, in program order (rules R77, R81) -/
  program : List HostInput
  /-- the transport: what it will do, in order -/
  wire : List TransportInput
  /-- which agent moves next, the next turn first; any interleaving of the agents (rule R22, assumption
  log 2) -/
  turns : List Agent
  /-- the model's own: how many free values have been drawn (assumption log 4) -/
  draws : Nat
  deriving DecidableEq, Repr

/-- Why a run stops with a fault. -/
inductive Fault where
  /-- The host reads RES when it holds no value (93_implementation_defined.md U11, rule R274: a fault in
  the host's program). Raised by `hostReadRes` and by a step that runs that host read. Safe. -/
  | resNoValue
  /-- PHASE stands at a value that the operation in OPSEL never takes (rule R36). Raised by `resume`
  only; no run from reset reaches such a state. Safe. -/
  | strayPhase
  deriving DecidableEq, Repr

/-- Why the model gives an input no meaning. -/
inductive Refusal where
  /-- An instruction that has no meaning yet; raised by an arm of `exec` alone. Safe. -/
  | notModelled (mnemonic : String)
  /-- A START while `PHASE` is not IDLE (93_implementation_defined.md U2, rules R40, R270: "a model
  refuses it"). Raised by every meaning that begins an operation. Safe. -/
  | startWhileBusy
  /-- Bytes that are no instruction of their format, the reserved `OPSEL = 0` and numbers above 7 among
  them (93_implementation_defined.md U1, rule R112: "a model refuses it"). Raised by a step that runs
  such an input. Safe. -/
  | undecodable (why : DecodeError)
  /-- The message of STATUS 0 (93_implementation_defined.md U6, rule R218: outside the function's
  domain). Raised by `hostReadMessage` and by a step that runs that host read. Safe. -/
  | noMessage
  deriving DecidableEq, Repr

/-- The state after reset (rule R51), with nothing arrived, nothing written and nothing to do. The
registers rule R51 calls unspecified are zero, OPSEL at its reserved value (assumption log 1). -/
def State.reset : State where
  cfg := Config.documented
  opsel := .reserved
  code0 := 0#8
  code1 := 0#8
  arg0 := 0#8
  arg1 := 0#8
  phase := .idle
  buf := List.replicate (bufLen Config.documented) 0#8
  shifts := 0
  status := .ok
  done := false
  res := none
  resLen := 0
  hostCode0 := 0#8
  hostCode1 := 0#8
  hostArg0 := 0#8
  hostArg1 := 0#8
  consumed := 0
  inbound := []
  skip := 0
  outbound := []
  answers := []
  program := []
  wire := []
  turns := []
  draws := 0

end Sys2Proof.Machine
end

