-- ==== Sys2Proof/Machine/Operands.lean ====
section
/-! DEFINITION. Operand forms of a START, the lengths an operation reads, and the fields of the
packets a host reads out of RES. -/

namespace Sys2Proof.Machine

/-! ### The operands of a START (rule R40) -/

/-- `c0` of rule R40. -/
def operandCode0 (x : Operands) (s : State) : Byte :=
  match x with
  | .ports => s.hostCode0
  | .given c0 _ _ _ => c0

/-- `c1` of rule R40. -/
def operandCode1 (x : Operands) (s : State) : Byte :=
  match x with
  | .ports => s.hostCode1
  | .given _ c1 _ _ => c1

/-- `a0` of rule R40. -/
def operandArg0 (x : Operands) (s : State) : Byte :=
  match x with
  | .ports => s.hostArg0
  | .given _ _ a0 _ => a0

/-- `a1` of rule R40. -/
def operandArg1 (x : Operands) (s : State) : Byte :=
  match x with
  | .ports => s.hostArg1
  | .given _ _ _ a1 => a1

/-! ### Operations by their number -/

/-- The number of an operation in OPSEL (rules R110, R112). -/
def opselCode : OpSel → BitVec 3
  | .reserved => 0
  | .wrcmd => 1
  | .wrarg => 2
  | .rdhdr => 3
  | .rdprm => 4
  | .rdscan => 5
  | .rdmotor => 6
  | .rdrate => 7

/-- The number of a phase in PHASE (rule R36). -/
def phaseCode : Phase → BitVec 3
  | .idle => 0
  | .write => 1
  | .fill => 2
  | .check => 3
  | .refill => 4

/-- The packet length of a read operation (rules R35, R63, R72); none for the operations that write. -/
def readLen (cfg : Config) : OpSel → Option Nat
  | .reserved => none
  | .wrcmd => none
  | .wrarg => none
  | .rdhdr => some headerLen
  | .rdprm => some paramLen
  | .rdscan => some (recordLen cfg)
  | .rdmotor => some (motorInfoLen cfg)
  | .rdrate => some (rateInfoLen cfg)

/-- The phase in which an operation begins (rule R40). -/
def firstPhase : OpSel → Phase
  | .reserved => .idle
  | .wrcmd => .write
  | .wrarg => .write
  | .rdhdr => .fill
  | .rdprm => .fill
  | .rdscan => .fill
  | .rdmotor => .fill
  | .rdrate => .fill

/-! ### Fields of a scan record (rules R95 to R102) -/

/-- `s1 = BUF[0][0]` (rule R98). -/
def scanS1 (w : List Byte) : BitVec 1 := (byteAt w 0).extractLsb' 0 1

/-- `s2 = BUF[0][1]` (rule R98). -/
def scanS2 (w : List Byte) : BitVec 1 := (byteAt w 0).extractLsb' 1 1

/-- `VHL = BUF[0][2]` (rule R98). -/
def scanVhl (w : List Byte) : BitVec 1 := syncVhl (byteAt w 0)

/-- `distance_low = BUF[0][7:3]` (rule R98). -/
def scanDistanceLow (w : List Byte) : BitVec 5 := syncDistanceLow (byteAt w 0)

/-- `distance_high = BUF[1]` (rule R101). -/
def scanDistanceHigh (w : List Byte) : Byte := byteAt w 1

/-- `angle`, 16 bits, in the configured byte order (rule R99). -/
def scanAngle (order : AngleOrder) (w : List Byte) : BitVec 16 :=
  match order with
  | .le => byteAt w 3 ++ byteAt w 2
  | .be => byteAt w 2 ++ byteAt w 3

/-- `VRECT = BUF[4][7:4]` (rule R100). -/
def scanVrect (w : List Byte) : BitVec 4 := hiNibble (byteAt w 4)

/-- The transmitted checksum `TX_CHK` (rule R102): `BUF[5]` in layout L6, `BUF[4][3:0]` in L5. -/
def scanTxChk (layout : ScanLayout) (w : List Byte) : Nat :=
  match layout with
  | .l6 => (byteAt w 5).toNat
  | .l5 => (loNibble (byteAt w 4)).toNat

/-- A scan record as the host reads it (rule R48): the fields, separately. -/
structure ScanRecord where
  s1 : BitVec 1
  s2 : BitVec 1
  vhl : BitVec 1
  distanceLow : BitVec 5
  distanceHigh : Byte
  angle : BitVec 16
  vrect : BitVec 4
  checksum : Nat
  deriving DecidableEq, Repr

/-- RES read through the field map of rule R95 or R96 (rule R48). -/
def scanRecordOf (cfg : Config) (w : List Byte) : ScanRecord where
  s1 := scanS1 w
  s2 := scanS2 w
  vhl := scanVhl w
  distanceLow := scanDistanceLow w
  distanceHigh := scanDistanceHigh w
  angle := scanAngle cfg.angleOrder w
  vrect := scanVrect w
  checksum := scanTxChk cfg.scanLayout w

/-- A header or param response as the host reads it (rule R49). -/
structure ResponseView where
  echo0 : Byte
  echo1 : Byte
  status1 : Byte
  status2 : Byte
  checksum : Byte
  deriving DecidableEq, Repr

/-- RES read through rule R93 (rule R49). -/
def responseOf (w : List Byte) : ResponseView where
  echo0 := byteAt w 0
  echo1 := byteAt w 1
  status1 := byteAt w 2
  status2 := byteAt w 3
  checksum := byteAt w 4

/-- An info response as the host reads it (rule R50). -/
structure InfoView where
  echo0 : Byte
  echo1 : Byte
  payload : List Byte
  deriving DecidableEq, Repr

/-- RES read through rule R97 (rule R50): the payload is raw. -/
def infoOf (w : List Byte) : InfoView where
  echo0 := byteAt w 0
  echo1 := byteAt w 1
  payload := w.drop 2

end Sys2Proof.Machine
end

