-- ==== Sys2Proof/Machine/Flags.lean ====
section
/-! DEFINITION. The stored and derived flags (rules R39, R42), the two checksum functions and the
predicates the checks evaluate (rules R141 to R143, R157 to R161). -/

namespace Sys2Proof.Machine

/-- `BUSY` (rule R39): derived, not stored. -/
def busy (s : State) : Bool := s.phase != .idle

/-- `HDR_CHK(a, b)` (rule R141), over the exact sum (rule R15). -/
def hdrChk (a b : Byte) : Nat := ((a.toNat + b.toNat) &&& 0x3F) + 0x30

/-- `HDR_CHK_OK(BUF)` (rule R142): the computed value against the whole transmitted byte. -/
def hdrChkOk (w : List Byte) : Bool := hdrChk (byteAt w 2) (byteAt w 3) == (byteAt w 4).toNat

/-- `ECHO_OK(BUF, CODE0, CODE1)` (rule R143): both bytes, raw. -/
def echoOk (w : List Byte) (c0 c1 : Byte) : Bool := byteAt w 0 == c0 && byteAt w 1 == c1

/-- `SCAN_SUM(BUF)` (rule R158), over the window's bytes: exact, never truncated. -/
def scanSum (w : List Byte) : Nat :=
  (byteAt w 0).toNat + (byteAt w 1).toNat + (byteAt w 2).toNat + (byteAt w 3).toNat
    + (byteAt w 4 &&& 0xF0#8).toNat

/-- `SCAN_CHK(BUF)` (rule R158). -/
def scanChk (w : List Byte) : Nat := scanSum w % 15

/-- `SCAN_CHK_OK(BUF)` (rule R159). -/
def scanChkOk (layout : ScanLayout) (w : List Byte) : Bool := scanChk w == scanTxChk layout w

/-- `SCAN_SYNC_OK(BUF)` (rule R160). -/
def scanSyncOk (w : List Byte) : Bool := scanS1 w == 1#1 && scanS2 w == 0#1

/-- `SCAN_VALID(BUF)` (rules R161, R162): the conjunction of two named checks. -/
def scanValid (layout : ScanLayout) (w : List Byte) : Bool := scanChkOk layout w && scanSyncOk w

end Sys2Proof.Machine
end

