-- ==== Sys2Proof/Machine/Errors.lean ====
section
/-! DEFINITION. The outcomes of an operation as data: their numbers, kinds and messages (rules R215 to
R219) and which operation can end with which (rule R220). -/

namespace Sys2Proof.Machine

/-- The number of an outcome in STATUS (rule R217). -/
def statusCode : Status → BitVec 4
  | .ok => 0
  | .writeCmd => 1
  | .writeArgs => 2
  | .readHeader => 3
  | .headerChecksum => 4
  | .headerCmd => 5
  | .readParam => 6
  | .paramChecksum => 7
  | .paramCmd => 8
  | .scanRead => 9
  | .scanBound => 10
  | .readMotor => 11
  | .motorCmd => 12
  | .readRate => 13
  | .rateCmd => 14

/-- The four kinds of error (rule R216). -/
inductive ErrorKind where
  | transport
  | checksum
  | echo
  | bound
  deriving DecidableEq, Repr

/-- The kind of each error (rules R216, R217); OK is no error. -/
def errorKind : Status → Option ErrorKind
  | .ok => none
  | .writeCmd => some .transport
  | .writeArgs => some .transport
  | .readHeader => some .transport
  | .headerChecksum => some .checksum
  | .headerCmd => some .echo
  | .readParam => some .transport
  | .paramChecksum => some .checksum
  | .paramCmd => some .echo
  | .scanRead => some .transport
  | .scanBound => some .bound
  | .readMotor => some .transport
  | .motorCmd => some .echo
  | .readRate => some .transport
  | .rateCmd => some .echo

/-- The message of an error (rules R133, R147, R194, R217, R218); OK has none. -/
def message : Status → Option String
  | .ok => none
  | .writeCmd => some "unable to write command"
  | .writeArgs => some "unable to write command with arguments"
  | .readHeader => some "unable to read response header"
  | .headerChecksum => some "invalid response header checksum"
  | .headerCmd => some "invalid header response commands"
  | .readParam => some "unable to read response param"
  | .paramChecksum => some "invalid response param checksum"
  | .paramCmd => some "invalid param response commands"
  | .scanRead => some "invalid scan response commands"
  | .scanBound => some "invalid scan response commands"
  | .readMotor => some "unable to read response motor info"
  | .motorCmd => some "invalid motor info response commands"
  | .readRate => some "unable to read response sample rate info"
  | .rateCmd => some "invalid sample rate info response commands"

/-- The closed table of rule R220: the outcomes an operation can finish with. -/
def mayFinishWith : OpSel → List Status
  | .reserved => []
  | .wrcmd => [.ok, .writeCmd]
  | .wrarg => [.ok, .writeArgs]
  | .rdhdr => [.ok, .readHeader, .headerChecksum, .headerCmd]
  | .rdprm => [.ok, .readParam, .paramChecksum, .paramCmd]
  | .rdscan => [.ok, .scanRead, .scanBound]
  | .rdmotor => [.ok, .readMotor, .motorCmd]
  | .rdrate => [.ok, .readRate, .rateCmd]

end Sys2Proof.Machine
end

