-- ==== Sys2Proof/Machine/Ops.lean ====
section
/-! DEFINITION. The operations every meaning is made of: the buffer, the transport's two transactions
(rules R61 to R65), START (rule R40), `finish`, which is also the way an error is taken (rules R41,
R228), the block's reset (rule R51), arrivals, and what the host reads.

An error has no handler and no saved state: taking it is `finish`, and there is nothing to return from
(rules R228, R229); the next START clears it. -/

namespace Sys2Proof.Machine

/-! ### The buffer -/

/-- `BUF[0..n-1] <- bs` with `n = len(bs)`: the bytes above stay (rules R18, R34). -/
def setBuf (bs : List Byte) (s : State) : State :=
  { s with buf := bs ++ s.buf.drop bs.length }

/-- The window of an RDSCAN, `BUF[0..N-1]` (rule R34). -/
def window (s : State) : List Byte := s.buf.take (recordLen s.cfg)

/-- `PHASE <- p` (rules R18, R36). -/
def toPhase (p : Phase) (s : State) : State := { s with phase := p }

/-- `SHIFTS <- 0` (rules R37, R163). -/
def clearShifts (s : State) : State := { s with shifts := 0 }

/-- The shift of rule R164: the first byte of the window is lost, the others move down one index, `x`
fills the last slot, and SHIFTS grows by one; the candidate is then checked (rule R36). -/
def shiftIn (x : Byte) (s : State) : State :=
  { s with
    buf := ((window s).drop 1 ++ [x]) ++ s.buf.drop (recordLen s.cfg)
    shifts := s.shifts + 1
    phase := .check }

/-! ### The transport -/

/-- A free value from 0 to `n` (rules R62, R65; 93_implementation_defined.md U3, U9; assumption log 4). -/
def drawUpTo (n : Nat) (s : State) : Nat := Config.freeDraw s.draws % (n + 1)

/-- What a transaction comes to. -/
inductive Answered where
  /-- the transport has not answered; the framer has no step (rule R272) -/
  | pending
  /-- the transport answered `Fail` -/
  | failed (s : State)
  /-- the transport answered `Ok`, a read with exactly the bytes asked for (rule R61) -/
  | success (bytes : List Byte) (s : State)

/-- A read of `n` bytes that failed: the stream's position is 0 to `n` bytes past the last known one (rule
R65, 93_implementation_defined.md U3). Bytes lost beyond those that have arrived are lost as they
arrive. -/
def failedRead (n : Nat) (s : State) : State :=
  { s with
    inbound := s.inbound.drop (drawUpTo n s)
    skip := s.skip + (drawUpTo n s - s.inbound.length)
    answers := s.answers.tail
    draws := s.draws + 1 }

/-- A write that failed: some first part of the packet, perhaps none or all of it, reached the stream
(rule R62). -/
def failedWrite (pkt : List Byte) (s : State) : State :=
  { s with
    outbound := s.outbound ++ pkt.take (drawUpTo pkt.length s)
    answers := s.answers.tail
    draws := s.draws + 1 }

/-- A read of `n` bytes that succeeded: they leave the inbound stream (rules R63, R64, R74), and the
ghost counter grows by `n` (rule R45). -/
def takenRead (n : Nat) (s : State) : State :=
  { s with
    inbound := s.inbound.drop n
    answers := s.answers.tail
    consumed := s.consumed + n }

/-- A write that succeeded: the packet's bytes are appended in order (rule R62). -/
def sentWrite (pkt : List Byte) (s : State) : State :=
  { s with
    outbound := s.outbound ++ pkt
    answers := s.answers.tail }

/-- `TRead(n)` (rules R19, R61, R63). An `Ok` that the transport has settled on comes once `n` bytes
have arrived: it "must fill exactly `length` bytes or fail". -/
def tRead (n : Nat) (s : State) : Answered :=
  match s.answers with
  | [] => .pending
  | .fail :: _ => .failed (failedRead n s)
  | .ok :: _ =>
      if s.inbound.length < n then .pending else .success (s.inbound.take n) (takenRead n s)

/-- `TWrite(n, pkt)` with `n = len(pkt)` (rules R19, R61, R62). -/
def tWrite (pkt : List Byte) (s : State) : Answered :=
  match s.answers with
  | [] => .pending
  | .fail :: _ => .failed (failedWrite pkt s)
  | .ok :: _ => .success [] (sentWrite pkt s)

/-- Bytes arrive behind those already there (rules R60, R64, R225); those that a failed read has lost
already do not come (rule R65). -/
def receive (bs : List Byte) (s : State) : State :=
  { s with
    inbound := s.inbound ++ bs.drop s.skip
    skip := s.skip - bs.length }

/-- The transport settles one more answer (rule R23). -/
def settle (a : Answer) (s : State) : State := { s with answers := s.answers ++ [a] }

/-! ### The end and the beginning of an operation -/

/-- `finish(st)` (rules R20, R35, R41), for an error also the taking of it (rule R228). RES has a value
after a read operation that ends OK, and after nothing else. BUF is left as it is: what it holds once an
operation has ended the spec leaves open (93_implementation_defined.md U7, rule R285), and that it keeps
its bytes is the model's choice (DESIGN CHOICE, assumption log 24). -/
def finish (st : Status) (s : State) : State :=
  { s with
    status := st
    done := true
    phase := .idle
    res := if st = .ok then (readLen s.cfg s.opsel).map (fun n => s.buf.take n) else none
    resLen := if st = .ok then (readLen s.cfg s.opsel).getD 0 else 0 }

/-- The effect of START on an idle framer (rule R40), all at once; CONSUMED is 0 at START (rule R45).
The host's ports show the operands it supplies (rule R52). -/
def latch (op : OpSel) (x : Operands) (s : State) : State :=
  { s with
    opsel := op
    code0 := operandCode0 x s
    code1 := operandCode1 x s
    arg0 := operandArg0 x s
    arg1 := operandArg1 x s
    status := .ok
    done := false
    res := none
    resLen := 0
    shifts := 0
    phase := firstPhase op
    hostCode0 := operandCode0 x s
    hostCode1 := operandCode1 x s
    hostArg0 := operandArg0 x s
    hostArg1 := operandArg1 x s
    consumed := 0 }

/-- START, a step of the host (rules R22, R40): the operands are latched, and `k` makes the operation's
first transaction ready, which is then outstanding (rule R36). It is enabled only when the framer is
idle; a START while it is busy is refused (rule R270). -/
def startThen (op : OpSel) (x : Operands) (k : State → State) (s : State) :
    Host.Outcome State Fault Refusal :=
  if s.phase = .idle then .next (k (latch op x s)) else .refused .startWhileBusy

/-! ### The framer's moves: one transaction or one set of checks each (rules R22, R36) -/

/-- `WRITE:` of rules R131 and R132, one transaction: the serialized packet goes to the transport, and
the operation ends, with `err` when the write fails. An unanswered write leaves all as it is. -/
def writeMove (pkt : List Byte) (err : Status) (s : State) : State :=
  match tWrite pkt s with
  | .pending => s
  | .failed t => finish err t
  | .success _ t => finish .ok t

/-- `FILL:` of rules R145, R146, R163, R192 and R193, one transaction: a read of the whole packet, which
ends the operation with `err` when it fails, else puts the packet in BUF, to be checked next, after `k`. -/
def fillMove (n : Nat) (err : Status) (k : State → State) (s : State) : State :=
  match tRead n s with
  | .pending => s
  | .failed t => finish err t
  | .success bs t => k (toPhase .check (setBuf bs t))

/-! ### The host's side -/

/-- The host puts a command-code constant in its code operand (head of 44_command_codes.md, rules R52,
R81, R200): the next START that takes its operands from the ports latches it. A running operation is
not affected (rule R81). -/
def selectCode (c0 c1 : Byte) (s : State) : State := { s with hostCode0 := c0, hostCode1 := c1 }

/-- The host reads RES (rule R274): only after a read operation that ended OK; else a fault in the
host's program (93_implementation_defined.md U11). -/
def hostReadRes (s : State) : Host.Outcome (List Byte) Fault Refusal :=
  match s.done, s.status, s.res with
  | true, .ok, some w => .next w
  | _, _, _ => .fault .resNoValue

/-- The host asks for the message of STATUS (rules R215, R218), which has a meaning only while DONE is
1 (rule R38); a success has no message (93_implementation_defined.md U6). -/
def hostReadMessage (s : State) : Host.Outcome String Fault Refusal :=
  match s.done, message s.status with
  | true, some m => .next m
  | _, _ => .refused .noMessage

/-! ### The block's reset -/

/-- What becomes of a transaction that is outstanding when the block is reset: it may or may not have
taken effect (rule R51; 93_implementation_defined.md U9), which is the same draw as after a `Fail`. -/
def abandon (s : State) : State :=
  match s.phase, s.opsel with
  | .write, .wrcmd => failedWrite (packBare s.code0 s.code1) s
  | .write, .wrarg => failedWrite (packArgpkt s.code0 s.code1 s.arg0 s.arg1) s
  | .fill, .rdhdr => failedRead headerLen s
  | .fill, .rdprm => failedRead paramLen s
  | .fill, .rdscan => failedRead (recordLen s.cfg) s
  | .fill, .rdmotor => failedRead (motorInfoLen s.cfg) s
  | .fill, .rdrate => failedRead (rateInfoLen s.cfg) s
  | .refill, .rdscan => failedRead 1 s
  | _, _ => s

/-- The registers as reset leaves them (rule R51; the unspecified ones zero, assumption log 1). The
transport, the host and the configuration are not touched (rules R46, R261). -/
def clearRegisters (s : State) : State :=
  { s with
    opsel := .reserved
    code0 := 0#8
    code1 := 0#8
    arg0 := 0#8
    arg1 := 0#8
    phase := .idle
    buf := List.replicate (bufLen s.cfg) 0#8
    shifts := 0
    status := .ok
    done := false
    res := none
    resLen := 0 }

/-- The block's reset input is asserted (rules R51, R235, R261). -/
def blockReset (s : State) : State := clearRegisters (abandon s)

end Sys2Proof.Machine
end

