-- ==== Sys2Proof/Machine/Codes.lean ====
section
/-! DEFINITION. The command-code constants (rules R200 to R212): the host puts the constant in its code
operand. A code is no operation of the framer, and the framer never checks one (rule R211). What the
sensor does on receiving a code is outside the spec (rule R11). Assumption log 8. -/

namespace Sys2Proof.Machine

/-- "DS" (rule R201). -/
def execDataAcquisitionStart (s : State) : Host.Outcome State Fault Refusal :=
  .next (selectCode 0x44#8 0x53#8 s)

/-- "DX" (rule R202). -/
def execDataAcquisitionStop (s : State) : Host.Outcome State Fault Refusal :=
  .next (selectCode 0x44#8 0x58#8 s)

/-- "MS" (rule R203). -/
def execMotorSpeedAdjust (s : State) : Host.Outcome State Fault Refusal :=
  .next (selectCode 0x4D#8 0x53#8 s)

/-- "MI" (rule R204). -/
def execMotorInformation (s : State) : Host.Outcome State Fault Refusal :=
  .next (selectCode 0x4D#8 0x49#8 s)

/-- "LR" (rule R205). -/
def execSampleRateAdjust (s : State) : Host.Outcome State Fault Refusal :=
  .next (selectCode 0x4C#8 0x52#8 s)

/-- "LI" (rule R206). -/
def execSampleRateInformation (s : State) : Host.Outcome State Fault Refusal :=
  .next (selectCode 0x4C#8 0x49#8 s)

/-- "IV" (rule R207). -/
def execVersionInformation (s : State) : Host.Outcome State Fault Refusal :=
  .next (selectCode 0x49#8 0x56#8 s)

/-- "ID" (rule R208). -/
def execDeviceInformation (s : State) : Host.Outcome State Fault Refusal :=
  .next (selectCode 0x49#8 0x44#8 s)

/-- "RR" (rule R209): it resets no framer state. -/
def execResetDevice (s : State) : Host.Outcome State Fault Refusal :=
  .next (selectCode 0x52#8 0x52#8 s)

/-- "CS" (rule R210). -/
def execDeviceCalibration (s : State) : Host.Outcome State Fault Refusal :=
  .next (selectCode 0x43#8 0x53#8 s)

end Sys2Proof.Machine
end

