-- ==== Sys2Proof/Machine/Info.lean ====
section
/-! DEFINITION. The Info Response Decoders (rules R190 to R196): RDMOTOR and RDRATE. -/

namespace Sys2Proof.Machine

/-- `CHECK:` of RDMOTOR (rules R192, R195): the echo alone. -/
def rdmotorCheck (s : State) : State :=
  if !echoOk s.buf s.code0 s.code1 then finish .motorCmd s else finish .ok s

/-- `FILL:` of RDMOTOR (rule R192). -/
def rdmotorFill (s : State) : State := fillMove (motorInfoLen s.cfg) .readMotor id s

/-- RDMOTOR (rule R192): its START; the framer then makes `rdmotorFill` and `rdmotorCheck`. -/
def execRdmotor (x : Operands) (s : State) : Host.Outcome State Fault Refusal :=
  startThen .rdmotor x id s

/-- `CHECK:` of RDRATE (rules R193, R195): the echo alone. -/
def rdrateCheck (s : State) : State :=
  if !echoOk s.buf s.code0 s.code1 then finish .rateCmd s else finish .ok s

/-- `FILL:` of RDRATE (rule R193). -/
def rdrateFill (s : State) : State := fillMove (rateInfoLen s.cfg) .readRate id s

/-- RDRATE (rule R193): its START; the framer then makes `rdrateFill` and `rdrateCheck`. -/
def execRdrate (x : Operands) (s : State) : Host.Outcome State Fault Refusal :=
  startThen .rdrate x id s

end Sys2Proof.Machine
end

