-- ==== Sys2Proof/Machine/Response.lean ====
section
/-! DEFINITION. The Header/Param Response Decoder (rules R140 to R151): RDHDR and RDPRM. -/

namespace Sys2Proof.Machine

/-- `CHECK:` of RDHDR (rules R144, R145): the checksum, then the echo. -/
def rdhdrCheck (s : State) : State :=
  if !hdrChkOk s.buf then finish .headerChecksum s
  else if !echoOk s.buf s.code0 s.code1 then finish .headerCmd s
  else finish .ok s

/-- `FILL:` of RDHDR (rule R145). -/
def rdhdrFill (s : State) : State := fillMove headerLen .readHeader id s

/-- RDHDR (rule R145): its START; the framer then makes `rdhdrFill` and `rdhdrCheck`. -/
def execRdhdr (x : Operands) (s : State) : Host.Outcome State Fault Refusal :=
  startThen .rdhdr x id s

/-- `CHECK:` of RDPRM (rules R144, R146): the checksum, then the echo. -/
def rdprmCheck (s : State) : State :=
  if !hdrChkOk s.buf then finish .paramChecksum s
  else if !echoOk s.buf s.code0 s.code1 then finish .paramCmd s
  else finish .ok s

/-- `FILL:` of RDPRM (rule R146). -/
def rdprmFill (s : State) : State := fillMove paramLen .readParam id s

/-- RDPRM (rule R146): its START; the framer then makes `rdprmFill` and `rdprmCheck`. -/
def execRdprm (x : Operands) (s : State) : Host.Outcome State Fault Refusal :=
  startThen .rdprm x id s

end Sys2Proof.Machine
end

