-- ==== Sys2Proof/Machine/Scan.lean ====
section
/-! DEFINITION. The Scan Record Decoder and Resynchronizer (rules R155 to R176): RDSCAN, whose moves are
FILL, then CHECK and REFILL in turn until a CHECK or a failing read ends it. -/

namespace Sys2Proof.Machine

/-- `FILL:` of RDSCAN (rule R163): one full record, and no shift made yet. -/
def rdscanFill (s : State) : State := fillMove (recordLen s.cfg) .scanRead clearShifts s

/-- `CHECK:` of RDSCAN (rule R163): validity is tested before the bound (rules R165, R226), and an invalid
window below the bound makes a one-byte read outstanding. -/
def rdscanCheck (s : State) : State :=
  if scanValid s.cfg.scanLayout (window s) then finish .ok s
  else if s.shifts = s.cfg.maxShifts then finish .scanBound s
  else toPhase .refill s

/-- `REFILL:` of RDSCAN (rules R163, R164): a shift costs one byte, and the candidate is checked next. -/
def rdscanRefill (s : State) : State :=
  match tRead 1 s with
  | .pending => s
  | .failed t => finish .scanRead t
  | .success bs t => shiftIn (byteAt bs 0) t

/-- RDSCAN (rule R163): its START; the framer then makes `rdscanFill`, `rdscanCheck` and `rdscanRefill`.
It takes no operand into account (rule R156). -/
def execRdscan (x : Operands) (s : State) : Host.Outcome State Fault Refusal :=
  startThen .rdscan x id s

end Sys2Proof.Machine
end

