-- ==== Sys2Proof/Machine/Encoder.lean ====
section
/-! DEFINITION. The Command Encoder (rules R130 to R136): WRCMD and WRARG. -/

namespace Sys2Proof.Machine

/-- BUF holds the serialized bare packet before the write (rules R34, R131). -/
def wrcmdSerialize (s : State) : State := setBuf (packBare s.code0 s.code1) s

/-- `WRITE:` of WRCMD (rule R131): one write of the bare packet, no retry. -/
def wrcmdWrite (s : State) : State := writeMove (packBare s.code0 s.code1) .writeCmd s

/-- BUF holds the serialized argument packet before the write (rules R34, R132). -/
def wrargSerialize (s : State) : State := setBuf (packArgpkt s.code0 s.code1 s.arg0 s.arg1) s

/-- `WRITE:` of WRARG (rule R132): one write of the argument packet, no retry. -/
def wrargWrite (s : State) : State :=
  writeMove (packArgpkt s.code0 s.code1 s.arg0 s.arg1) .writeArgs s

/-- WRCMD (rule R131): its START; the framer then makes `wrcmdWrite`. -/
def execWrcmd (x : Operands) (s : State) : Host.Outcome State Fault Refusal :=
  startThen .wrcmd x wrcmdSerialize s

/-- WRARG (rule R132): its START; the framer then makes `wrargWrite`. -/
def execWrarg (x : Operands) (s : State) : Host.Outcome State Fault Refusal :=
  startThen .wrarg x wrargSerialize s

end Sys2Proof.Machine
end

