-- ==== Sys2Proof/Machine/Wire.lean ====
section
/-! DEFINITION. The packets (rules R91 to R97) as they cross the boundary to the transport. An outbound
packet crosses it only by the operation that writes its format (rules R62, R91, R92, R110), which the
host starts; an inbound packet crosses it when its bytes arrive (rules R60, R64), and a read operation
takes them later. Assumption log 9. -/

namespace Sys2Proof.Machine

/-- BARE (rule R91, "Written by WRCMD"): the operation that writes this packet. The format has no
argument, so the argument operand is the host's as it stands. -/
def execBare (c d : Byte) (s : State) : Host.Outcome State Fault Refusal :=
  startThen .wrcmd (.given c d s.hostArg0 s.hostArg1) wrcmdSerialize s

/-- ARGPKT (rule R92, "Written by WRARG"): the operation that writes this packet. -/
def execArgpkt (c d a b : Byte) (s : State) : Host.Outcome State Fault Refusal :=
  startThen .wrarg (.given c d a b) wrargSerialize s

/-- HDR (rule R93): a header response arrives, genuine or not. -/
def execHdr (c d p q k : Byte) (s : State) : Host.Outcome State Fault Refusal :=
  .next (receive (packResponse c d p q k) s)

/-- PRM (rule R94): a param response arrives, genuine or not. -/
def execPrm (c d p q k : Byte) (s : State) : Host.Outcome State Fault Refusal :=
  .next (receive (packResponse c d p q k) s)

/-- SCAN, layout L6 (rule R95): a scan record arrives, its checksum right or not. -/
def execScanL6 (l : BitVec 5) (v : BitVec 1) (h a b : Byte) (r x : BitVec 4) (k : Byte)
    (s : State) : Host.Outcome State Fault Refusal :=
  .next (receive (packScanL6 l v h a b r x k) s)

/-- SCAN, layout L5 (rule R96): a scan record arrives, its checksum right or not. -/
def execScanL5 (l : BitVec 5) (v : BitVec 1) (h a b : Byte) (r k : BitVec 4)
    (s : State) : Host.Outcome State Fault Refusal :=
  .next (receive (packScanL5 l v h a b r k) s)

/-- INFO (rule R97): a motor or sample-rate info response arrives. -/
def execInfo (c d : Byte) (payload : List Byte) (s : State) :
    Host.Outcome State Fault Refusal :=
  .next (receive (packInfo c d payload) s)

end Sys2Proof.Machine
end

