-- ==== Sys2Proof/Machine/Dispatch.lean ====
section
/-! DEFINITION. One arm per constructor of Instr: the meaning of each row of spec/opcode_table.json. -/

namespace Sys2Proof.Machine

/-- The meaning of one instruction. -/
def exec (i : Instr) (s : State) : Host.Outcome State Fault Refusal :=
  match i with
  | .wrcmd x => Sys2Proof.Machine.execWrcmd x s
  | .wrarg x => Sys2Proof.Machine.execWrarg x s
  | .rdhdr x => Sys2Proof.Machine.execRdhdr x s
  | .rdprm x => Sys2Proof.Machine.execRdprm x s
  | .rdscan x => Sys2Proof.Machine.execRdscan x s
  | .rdmotor x => Sys2Proof.Machine.execRdmotor x s
  | .rdrate x => Sys2Proof.Machine.execRdrate x s
  | .dataAcquisitionStart => Sys2Proof.Machine.execDataAcquisitionStart s
  | .dataAcquisitionStop => Sys2Proof.Machine.execDataAcquisitionStop s
  | .motorSpeedAdjust => Sys2Proof.Machine.execMotorSpeedAdjust s
  | .motorInformation => Sys2Proof.Machine.execMotorInformation s
  | .sampleRateAdjust => Sys2Proof.Machine.execSampleRateAdjust s
  | .sampleRateInformation => Sys2Proof.Machine.execSampleRateInformation s
  | .versionInformation => Sys2Proof.Machine.execVersionInformation s
  | .deviceInformation => Sys2Proof.Machine.execDeviceInformation s
  | .resetDevice => Sys2Proof.Machine.execResetDevice s
  | .deviceCalibration => Sys2Proof.Machine.execDeviceCalibration s
  | .bare c d => Sys2Proof.Machine.execBare c d s
  | .argpkt c d a b => Sys2Proof.Machine.execArgpkt c d a b s
  | .hdr c d p q k => Sys2Proof.Machine.execHdr c d p q k s
  | .prm c d p q k => Sys2Proof.Machine.execPrm c d p q k s
  | .scanL6 l v h a b r x k => Sys2Proof.Machine.execScanL6 l v h a b r x k s
  | .scanL5 l v h a b r k => Sys2Proof.Machine.execScanL5 l v h a b r k s
  | .info c d payload => Sys2Proof.Machine.execInfo c d payload s

end Sys2Proof.Machine
end

