-- ==== Sys2Proof/Machine/Sequencer.lean ====
section
/-! DEFINITION. The framer's own moves while an operation runs, the inputs of the two other agents, and
which agent moves next (rules R22, R36, R272): what Step.lean calls.

A framer that waits for the transport stands in WRITE, FILL or REFILL with the transaction outstanding.
When the answer is there, its next move takes it (`resume`); until then the framer has no step. -/

namespace Sys2Proof.Machine

/-- The transport has answered a read of `n` bytes. -/
def readAnswered (n : Nat) (s : State) : Bool :=
  match s.answers with
  | [] => false
  | .fail :: _ => true
  | .ok :: _ => decide (n ≤ s.inbound.length)

/-- The transport has answered a write. -/
def writeAnswered (s : State) : Bool := !s.answers.isEmpty

/-- The framer has a step of its own: a check to make, or an answer to take. A place that the operation
never takes counts as one, so that `resume` names it. -/
def canMove (s : State) : Bool :=
  match s.phase with
  | .idle => false
  | .write => writeAnswered s
  | .fill => readAnswered ((readLen s.cfg s.opsel).getD 0) s
  | .check => true
  | .refill => readAnswered 1 s

/-- One move of the framer: the transaction that is outstanding, or the checks (rules R22, R36). An idle
framer has none, and a transaction without an answer leaves all as it is. -/
def resume (s : State) : Host.Outcome State Fault Refusal :=
  match s.phase, s.opsel with
  | .idle, _ => .next s
  | .write, .wrcmd => .next (wrcmdWrite s)
  | .write, .wrarg => .next (wrargWrite s)
  | .fill, .rdhdr => .next (rdhdrFill s)
  | .fill, .rdprm => .next (rdprmFill s)
  | .fill, .rdscan => .next (rdscanFill s)
  | .fill, .rdmotor => .next (rdmotorFill s)
  | .fill, .rdrate => .next (rdrateFill s)
  | .check, .rdhdr => .next (rdhdrCheck s)
  | .check, .rdprm => .next (rdprmCheck s)
  | .check, .rdscan => .next (rdscanCheck s)
  | .check, .rdmotor => .next (rdmotorCheck s)
  | .check, .rdrate => .next (rdrateCheck s)
  | .refill, .rdscan => .next (rdscanRefill s)
  | _, _ => .fault .strayPhase

/-- One input of the host is done. -/
def feedHost (x : HostInput) (s : State) : Host.Outcome State Fault Refusal :=
  match x with
  | .word f bytes =>
      match decode (hostFormat f) bytes with
      | .ok i => exec i s
      | .error why => .refused (.undecodable why)
  | .reset => .next (blockReset s)
  | .readRes =>
      match hostReadRes s with
      | .next _ => .next s
      | .fault r => .fault r
      | .refused r => .refused r
  | .readMessage =>
      match hostReadMessage s with
      | .next _ => .next s
      | .fault r => .fault r
      | .refused r => .refused r

/-- One input of the transport is done. -/
def feedTransport (x : TransportInput) (s : State) : Host.Outcome State Fault Refusal :=
  match x with
  | .word f bytes =>
      match decode (arrivalFormat f) bytes with
      | .ok i => exec i s
      | .error why => .refused (.undecodable why)
  | .line bytes => .next (receive bytes s)
  | .answer a => .next (settle a s)

/-! ### Which agent moves next (rule R22, assumption log 2) -/

/-- The agent has something it can do. While an operation runs, the host can only wait or reset the
block (rules R22, R272): what it has next waits, but for a reset. -/
def ready (a : Agent) (s : State) : Bool :=
  match a with
  | .framer => canMove s
  | .transport => !s.wire.isEmpty
  | .host =>
      match s.program with
      | [] => false
      | .reset :: _ => true
      | _ :: _ => !busy s

/-- Who moves when no turn says otherwise: the framer, else the transport, else the host. -/
def defaultAgent (s : State) : Option Agent :=
  if ready .framer s then some .framer
  else if ready .transport s then some .transport
  else if ready .host s then some .host
  else none

/-- The agent whose turn it is, if it can move; none: nobody can. -/
def nextAgent (s : State) : Option Agent :=
  match s.turns with
  | [] => defaultAgent s
  | a :: _ => if ready a s then some a else defaultAgent s

/-- The turn is over. -/
def passTurn (s : State) : State := { s with turns := s.turns.tail }

/-- The host's next input. -/
def hostTurn (s : State) : Host.Outcome State Fault Refusal :=
  match s.program with
  | x :: rest => feedHost x { s with program := rest }
  | [] => .next s

/-- The transport's next input. -/
def transportTurn (s : State) : Host.Outcome State Fault Refusal :=
  match s.wire with
  | x :: rest => feedTransport x { s with wire := rest }
  | [] => .next s

/-- One step of the machine: one step of one agent (rule R22). -/
def stepOnce (s : State) : Host.Outcome State Fault Refusal :=
  match nextAgent s with
  | some .framer => resume (passTurn s)
  | some .host => hostTurn (passTurn s)
  | some .transport => transportTurn (passTurn s)
  | none => .next (passTurn s)

/-- Where `stepOnce` fetches its next instruction when the framer is idle: the head of the list of the
agent whose word it is, which gets the next turn. -/
def placeWord (f : Format) (bytes : List Byte) (s : State) : State :=
  match formatSide f with
  | .inl h => { s with program := .word h bytes :: s.program, turns := .host :: s.turns }
  | .inr a => { s with wire := .word a bytes :: s.wire, turns := .transport :: s.turns }

end Sys2Proof.Machine
end

