-- ==== Sys2Proof/Machine/Step.lean ====
section
/-! DEFINITION. One step of the machine, and where the host's probes place an instruction. -/

namespace Sys2Proof.Machine

/-- One step of one agent (rule R22). -/
def step (s : State) : Host.Outcome State Fault Refusal := stepOnce s

/-- `s` with the instruction of an opcode-table word at the head of what its agent does, the
host or the transport, whose turn it then is (assumption log 11). -/
def State.withFetchWord (s : State) (nbits w : Nat) : State :=
  placeWord (tableSlot nbits w).1 (tableSlot nbits w).2 s

end Sys2Proof.Machine
end

