-- ==== Sys2Proof/Safety.lean ====
section
/-! DEFINITION. What holds of a sound state of the framer, what counts as a safe run, and the words the
statements use: windows of the stream, settled answers, and the operation an instruction begins. -/

namespace Sys2Proof.Machine

/-- The phases an operation takes (rule R36, third and fourth columns): every operation is IDLE before
and after, the writing ones take WRITE, the reading ones FILL and CHECK, RDSCAN also REFILL. -/
def phaseFits : OpSel → Phase → Bool
  | _, .idle => true
  | .wrcmd, .write => true
  | .wrarg, .write => true
  | .rdhdr, .fill => true
  | .rdprm, .fill => true
  | .rdscan, .fill => true
  | .rdmotor, .fill => true
  | .rdrate, .fill => true
  | .rdhdr, .check => true
  | .rdprm, .check => true
  | .rdscan, .check => true
  | .rdmotor, .check => true
  | .rdrate, .check => true
  | .rdscan, .refill => true
  | _, _ => false

/-- The packet `w` passes every check of the operation (rules R145, R146, R161, R192, R193). -/
def accepted (cfg : Config) (op : OpSel) (c0 c1 : Byte) (w : List Byte) : Bool :=
  match op with
  | .rdhdr => hdrChkOk w && echoOk w c0 c1
  | .rdprm => hdrChkOk w && echoOk w c0 c1
  | .rdscan => scanValid cfg.scanLayout w
  | .rdmotor => echoOk w c0 c1
  | .rdrate => echoOk w c0 c1
  | _ => false

/-- A sound state. Every field is a rule of the spec about all states a run reaches. -/
structure Sound (s : State) : Prop where
  /-- BUF has `BUF_LEN` bytes (rules R12, R30) -/
  bufLength : s.buf.length = bufLen s.cfg
  /-- SHIFTS "never exceeds `MAX_SHIFTS`" (rule R37) -/
  shiftsBound : s.shifts ≤ s.cfg.maxShifts
  /-- a refill is outstanding only below the bound (rule R164) -/
  refillBound : s.phase = .refill → s.shifts < s.cfg.maxShifts
  /-- PHASE is one the operation takes (rule R36) -/
  phaseFit : phaseFits s.opsel s.phase = true
  /-- DONE and BUSY exclude each other (rules R39, R41) -/
  doneIdle : s.done = true → s.phase = .idle
  /-- STATUS is 0 until an operation finishes (rules R38, R40) -/
  runningOk : s.done = false → s.status = .ok
  /-- the closed table of rule R220 -/
  doneStatus : s.done = true → s.status ∈ mayFinishWith s.opsel
  /-- RES has a value only after a read operation that ended OK (rules R35, R274), which its length
  fits, and which passed every check -/
  resAccepted : ∀ w, s.res = some w →
    s.done = true ∧ s.status = .ok ∧ readLen s.cfg s.opsel = some w.length ∧
      s.resLen = w.length ∧ accepted s.cfg s.opsel s.code0 s.code1 w = true
  /-- a read operation that ended OK gave RES a value (rule R35) -/
  resGiven : ∀ n, s.done = true → s.status = .ok → readLen s.cfg s.opsel = some n →
    ∃ w, s.res = some w
  /-- what a failed read lost beyond the bytes that had arrived is lost only when none is left (rule R65) -/
  skipEmpty : s.skip = 0 ∨ s.inbound = []
  /-- RES_LEN is 0 while RES has no value (rules R40, R51) -/
  resEmpty : s.res = none → s.resLen = 0

/-- A run of at most `n` steps never finds the sequencer at a place its operation does not take: the
only fault that is the framer's own. -/
def SafeRun (n : Nat) (s : State) : Prop :=
  ∀ k ≤ n, Host.Core.run Sys2Proof.core k s ≠ .fault Fault.strayPhase

/-! ### Words of the statements -/

/-- `n` moves of the framer, one transaction or one set of checks each (rules R22, R36). An idle framer
and one that waits have no move, so that more moves than it has change nothing. -/
def moves : Nat → State → Host.Outcome State Fault Refusal
  | 0, s => .next s
  | n + 1, s =>
      match resume s with
      | .next t => moves n t
      | .fault r => .fault r
      | .refused r => .refused r

/-- All the moves that an operation has (rules R72, R165): FILL and CHECK, and a REFILL and a CHECK for each
shift that is permitted. -/
def operate (s : State) : Host.Outcome State Fault Refusal := moves (2 * s.cfg.maxShifts + 2) s

/-- The window at offset `k` of a stream: its bytes `k` to `k+N-1` (rules R25, R166). -/
def windowAt (cfg : Config) (x : List Byte) (k : Nat) : List Byte :=
  (x.drop k).take (recordLen cfg)

/-- The window at offset `k` is valid (rules R161, R176). -/
def validAt (cfg : Config) (x : List Byte) (k : Nat) : Bool :=
  scanValid cfg.scanLayout (windowAt cfg x k)

/-- The transport settles on `Ok` for the next `n` transactions (rule R23). -/
def okAnswers (n : Nat) : List Answer := List.replicate n .ok

/-- The transport has more: answers settled and bytes arrived behind those it had. -/
def supply (more : List Answer) (bytes : List Byte) (s : State) : State :=
  { receive bytes s with answers := s.answers ++ more }

/-- The operation that an instruction begins, if it begins one (rules R40, R110). -/
def begins : Instr → Option OpSel
  | .wrcmd _ => some .wrcmd
  | .wrarg _ => some .wrarg
  | .rdhdr _ => some .rdhdr
  | .rdprm _ => some .rdprm
  | .rdscan _ => some .rdscan
  | .rdmotor _ => some .rdmotor
  | .rdrate _ => some .rdrate
  | .bare _ _ => some .wrcmd
  | .argpkt _ _ _ _ => some .wrarg
  | .dataAcquisitionStart => none
  | .dataAcquisitionStop => none
  | .motorSpeedAdjust => none
  | .motorInformation => none
  | .sampleRateAdjust => none
  | .sampleRateInformation => none
  | .versionInformation => none
  | .deviceInformation => none
  | .resetDevice => none
  | .deviceCalibration => none
  | .hdr _ _ _ _ _ => none
  | .prm _ _ _ _ _ => none
  | .scanL6 _ _ _ _ _ _ _ _ => none
  | .scanL5 _ _ _ _ _ _ _ => none
  | .info _ _ _ => none

/-- The `SCAN_SUM` of rule R158 in the source's own form, over the fields of the record. -/
def scanSumOfFields (order : AngleOrder) (w : List Byte) : Nat :=
  (((scanDistanceLow w).toNat <<< 3) + ((scanVhl w).toNat <<< 2) + ((scanS2 w).toNat <<< 1)
      + (scanS1 w).toNat)
    + (scanDistanceHigh w).toNat + ((scanAngle order w).toNat &&& 0xFF)
    + ((scanAngle order w).toNat >>> 8) + ((scanVrect w).toNat <<< 4)

/-- The sum of the nine nibbles of a window's data terms (rule R172 (b)). -/
def nibbleSum (w : List Byte) : Nat :=
  (hiNibble (byteAt w 0)).toNat + (loNibble (byteAt w 0)).toNat
    + (hiNibble (byteAt w 1)).toNat + (loNibble (byteAt w 1)).toNat
    + (hiNibble (byteAt w 2)).toNat + (loNibble (byteAt w 2)).toNat
    + (hiNibble (byteAt w 3)).toNat + (loNibble (byteAt w 3)).toNat
    + (scanVrect w).toNat

/-- `s` with every register an earlier operation may have written as `junk` has it: the same outside
world, the same phase, other leftovers (rule R47). -/
def withLeftovers (junk s : State) : State :=
  { s with
    opsel := junk.opsel
    code0 := junk.code0
    code1 := junk.code1
    arg0 := junk.arg0
    arg1 := junk.arg1
    buf := junk.buf
    shifts := junk.shifts
    status := junk.status
    done := junk.done
    res := junk.res
    resLen := junk.resLen
    consumed := junk.consumed }

end Sys2Proof.Machine
end

