-- ==== Sys2Proof/Certificates/Slice0/Obligations.lean ====
section
/-! DEFINITION. The statements for the provers: what the spec's rules say of the framer, over every state
of the model. A next state written as a record update of the state before says at once what happened and
that nothing else changed: every register, both streams, the host's and the transport's lists. There is
no memory (rule R60); the two streams take its place in the frames.

`exec` of an operation is its START, a step of the host; the operation's transactions and checks are the
framer's `moves` after it, one each (rules R22, R40). What BUF holds when an operation has ended is open
in the spec (U7, rule R285); the next states below show what it holds in the model (log 24). -/

open Sys2Proof Sys2Proof.Machine

/-! ### Encoding -/

/-- The decoder gives back every instruction from its encoding, with every operand at every value
(rules R91 to R97, R110, R200; the short form of a host operation and the format tag are the model's,
logs 7 and 10). -/
def Obligations.DecodeReadsEveryEncoding : Prop :=
  ∀ i : Instr, decode (encode i).1 (encode i).2 = .ok i

/-- Within one format, whatever the decoder accepts is the encoding of what it answers. Bytes without
their format have no one reading (rule R116): the format tag and the one-byte form of a host operation
are the model's (logs 10 and 7). -/
def Obligations.DecodedBytesAreTheEncoding : Prop :=
  ∀ (f : Format) (bytes : List Byte) (i : Instr),
    decode f bytes = .ok i → encode i = (f, bytes)

/-- Words written out from the spec's tables: OPSEL numbers (R110), letters (R200), packets (the worked
examples of R131, R132, R145 and the records A of 95_test_vectors.md in both layouts), each under the
model's format tag (log 10); the one-byte words 05 and 07 are the model's short form of a host operation
(log 7). -/
def Obligations.SampleWordsDecode : Prop :=
  decode .hostop [0x01#8, 0x44#8, 0x53#8, 0x00#8, 0x00#8]
      = .ok (.wrcmd (.given 0x44#8 0x53#8 0x00#8 0x00#8)) ∧
  decode .hostop [0x02#8, 0x4D#8, 0x53#8, 0x30#8, 0x35#8]
      = .ok (.wrarg (.given 0x4D#8 0x53#8 0x30#8 0x35#8)) ∧
  decode .hostop [0x05#8] = .ok (.rdscan .ports) ∧
  decode .hostop [0x07#8] = .ok (.rdrate .ports) ∧
  decode .cmd2 [0x44#8, 0x58#8] = .ok .dataAcquisitionStop ∧
  decode .cmd2 [0x43#8, 0x53#8] = .ok .deviceCalibration ∧
  decode .wireBare [0x44#8, 0x53#8, 0x0A#8] = .ok (.bare 0x44#8 0x53#8) ∧
  decode .wireHdr [0x44#8, 0x53#8, 0x30#8, 0x30#8, 0x50#8]
      = .ok (.hdr 0x44#8 0x53#8 0x30#8 0x30#8 0x50#8) ∧
  decode .wireScanL6 [0xAD#8, 0x12#8, 0x34#8, 0x12#8, 0x90#8, 0x00#8]
      = .ok (.scanL6 21#5 1#1 0x12#8 0x34#8 0x12#8 9#4 0#4 0x00#8) ∧
  decode .wireScanL5 [0xAD#8, 0x12#8, 0x34#8, 0x12#8, 0x90#8]
      = .ok (.scanL5 21#5 1#1 0x12#8 0x34#8 0x12#8 9#4 0#4)

/-- OPSEL 0 and every number above 7 select nothing, with or without operands, and a step that runs such
a START is refused by name (the spec's decision D12, D18: rule R112, U1 "a model refuses it"). -/
def Obligations.UnassignedOpselRefused : Prop :=
  ∀ (op c0 c1 a0 a1 : Byte) (bytes : List Byte) (s : State) (rest : List HostInput),
    op = 0#8 ∨ 7 < op.toNat →
    bytes = [op] ∨ bytes = [op, c0, c1, a0, a1] →
    nextAgent s = some .host → s.program = .word .hostop bytes :: rest →
    step s = .refused (.undecodable (if op = 0#8 then .reservedOpsel else .opselOutOfRange))

/-! ### The step -/

/-- A step is one step of one agent. When it is the host's or the transport's, the step runs the decoded
instruction at the head of that agent's list, the input leaves the list and the turn passes, and nothing
else happens around `exec`; when it is the framer's, it is one move. An agent that is named by the next
turn and can move is the one that moves, and the host moves during an operation only to reset the block
(rules R22, R272; how turns are held is the model's, log 2). -/
def Obligations.StepRunsTheDecodedInstruction : Prop :=
  (∀ (s : State) (f : HostFormat) (bytes : List Byte) (rest : List HostInput) (i : Instr),
    nextAgent s = some .host → s.program = .word f bytes :: rest →
    decode (hostFormat f) bytes = .ok i →
    step s = exec i { s with program := rest, turns := s.turns.tail }) ∧
  (∀ (s : State) (f : ArrivalFormat) (bytes : List Byte) (rest : List TransportInput) (i : Instr),
    nextAgent s = some .transport → s.wire = .word f bytes :: rest →
    decode (arrivalFormat f) bytes = .ok i →
    step s = exec i { s with wire := rest, turns := s.turns.tail }) ∧
  (∀ s : State, nextAgent s = some .framer → step s = resume { s with turns := s.turns.tail }) ∧
  (∀ (s : State) (a : Agent) (more : List Agent),
    s.turns = a :: more → ready a s = true → nextAgent s = some a) ∧
  (∀ s : State, nextAgent s = some .host → s.program.head? ≠ some .reset → s.phase = .idle)

/-- A framer with a transaction outstanding that the transport does not answer has no step: nothing
changes but whose turn it is, DONE stays 0, and a START the host has next waits (rule R272; that a step
then answers the unchanged state is the model's, log 5). -/
def Obligations.UnansweredTransactionWaits : Prop :=
  ∀ s : State, Sound s → s.phase ≠ .idle → s.phase ≠ .check → s.answers = [] →
    s.wire = [] → s.program.head? ≠ some .reset →
    step s = .next { s with turns := s.turns.tail } ∧ s.done = false

/-- Waiting for the transport does not change what an operation does: a move that the framer can make
comes to the same before and after more answers and bytes arrive, so an operation that had to wait goes on
to the state it would have reached had they been there from the start (rules R245, R280; that the wait is
one state of PHASE is the spec's decision D14). -/
def Obligations.LateAnswersChangeNothing : Prop :=
  (∀ (s t : State) (more : List Answer) (bytes : List Byte),
    canMove s = true → resume s = .next t →
    resume (supply more bytes s) = .next (supply more bytes t)) ∧
  (∀ (i : Instr) (op : OpSel) (s u t : State) (more : List Answer) (bytes : List Byte),
    begins i = some op → exec i s = .next u → operate u = .next t →
    exec i (supply more bytes s) = .next (supply more bytes u) ∧
    operate (supply more bytes u) = operate (supply more bytes t))

/-! ### Invariants -/

/-- Every step keeps a state sound: BUF's size, SHIFTS within its bound, PHASE one the operation takes,
DONE only when idle, STATUS within the operation's table, RES only the packet of a read operation that
ended OK and passed every check, and a loss still to come only when no byte is there (rules R12, R35 to
R39, R65, R164, R220, R274). -/
def Obligations.StepKeepsInvariant : Prop :=
  ∀ s t : State, Sound s → step s = .next t → Sound t

/-- The reset state is sound. -/
def Obligations.ResetMeetsInvariant : Prop := Sound State.reset

/-- From a sound state no run of any length finds the sequencer at a place its operation does not
take. -/
def Obligations.EveryRunIsSafe : Prop :=
  ∀ (n : Nat) (s : State), Sound s → SafeRun n s

/-- From a sound state the only fault of a step is the host's: it reads RES although no read operation
has just ended OK (rule R274, U11). -/
def Obligations.OnlyAnEmptyResReadFaults : Prop :=
  ∀ (s : State) (r : Fault), Sound s → step s = .fault r →
    r = .resNoValue ∧ s.res = none ∧ nextAgent s = some .host ∧ s.program.head? = some .readRes

/-- The configuration is fixed for a run (rule R46): no step writes it. -/
def Obligations.ConfigurationNeverChanges : Prop :=
  ∀ s t : State, step s = .next t → t.cfg = s.cfg

/-- The operand latches do not change while an operation runs: neither by the framer's own moves, nor by
an instruction, nor by any input of the host but the block's reset, nor by any input of the transport
(rules R31, R81). -/
def Obligations.LatchesHoldWhileBusy : Prop :=
  ∀ s t : State, s.phase ≠ .idle →
    (resume s = .next t ∨ (∃ i, exec i s = .next t) ∨
      (∃ x, x ≠ .reset ∧ feedHost x s = .next t) ∨ (∃ x, feedTransport x s = .next t)) →
    t.opsel = s.opsel ∧ t.code0 = s.code0 ∧ t.code1 = s.code1 ∧ t.arg0 = s.arg0 ∧ t.arg1 = s.arg1

/-- The outbound stream is only ever appended to (rule R60). -/
def Obligations.OutboundStreamOnlyGrows : Prop :=
  ∀ s t : State, step s = .next t → ∃ p, t.outbound = s.outbound ++ p

/-! ### START, waiting and stops -/

/-- Every instruction answers a next state but a START on a busy framer, which is refused (rule R270;
the refusal is the spec's decision D18). -/
def Obligations.OnlyAStartWhileBusyIsRefused : Prop :=
  ∀ (i : Instr) (s : State),
    (begins i = none ∨ s.phase = .idle → ∃ t, exec i s = .next t) ∧
    (begins i ≠ none → s.phase ≠ .idle → exec i s = .refused .startWhileBusy)

/-- START latches OPSEL and the four operands, clears what an earlier operation left, and stands in WRITE,
with the serialized packet in BUF, or in FILL, with the first transaction outstanding (rules R34, R40, the
spec's decision D13; the two operand forms are the model's, log 7). -/
def Obligations.StartLatchesOperands : Prop :=
  ∀ (i : Instr) (op : OpSel) (c0 c1 a0 a1 : Byte) (x : Operands) (s : State),
    (i, op) ∈ [(Instr.wrcmd x, OpSel.wrcmd), (.wrarg x, .wrarg), (.rdhdr x, .rdhdr),
      (.rdprm x, .rdprm), (.rdscan x, .rdscan), (.rdmotor x, .rdmotor), (.rdrate x, .rdrate)] →
    x = .given c0 c1 a0 a1 ∨
      (x = .ports ∧ c0 = s.hostCode0 ∧ c1 = s.hostCode1 ∧ a0 = s.hostArg0 ∧ a1 = s.hostArg1) →
    s.phase = .idle →
    exec i s = .next
      { s with
        opsel := op, code0 := c0, code1 := c1, arg0 := a0, arg1 := a1
        hostCode0 := c0, hostCode1 := c1, hostArg0 := a0, hostArg1 := a1
        phase := if op = .wrcmd ∨ op = .wrarg then .write else .fill
        buf :=
          if op = .wrcmd then [c0, c1, 0x0A#8] ++ s.buf.drop 3
          else if op = .wrarg then [c0, c1, a0, a1, 0x0A#8] ++ s.buf.drop 5
          else s.buf
        status := .ok, done := false, res := none, resLen := 0, shifts := 0, consumed := 0 }

/-- Nothing is carried from one operation into the next (rule R47): what an operation comes to, after any
number of moves, depends on no register that earlier operations wrote. Only bytes of BUF that the
operation has not written may differ: its packet's bytes agree from START on when it writes, and from its
first answered read on when it reads. -/
def Obligations.NothingIsCarriedOver : Prop :=
  ∀ (i : Instr) (op : OpSel) (s junk u t : State) (n : Nat),
    begins i = some op → exec i s = .next u → moves n u = .next t →
    ∃ u' b, exec i (withLeftovers junk s) = .next u' ∧ moves n u' = .next { t with buf := b } ∧
      (op = .wrcmd → b.take 3 = t.buf.take 3) ∧ (op = .wrarg → b.take 5 = t.buf.take 5) ∧
      (∀ m, readLen s.cfg op = some m → t.consumed ≠ 0 → b.take m = t.buf.take m)

/-! ### The Command Encoder -/

/-- WRCMD on an answering transport: three bytes appended, STATUS OK, RES without value, all else as it
was (rules R91, R131). That BUF keeps its bytes at the end is the model's choice (log 24). -/
def Obligations.WrcmdSendsABarePacket : Prop :=
  ∀ (x : Operands) (s : State) (rest : List Answer),
    s.phase = .idle → s.answers = .ok :: rest →
    ∃ u, exec (.wrcmd x) s = .next u ∧ moves 1 u = .next
      { latch .wrcmd x s with
        buf := [operandCode0 x s, operandCode1 x s, 0x0A#8] ++ s.buf.drop 3
        outbound := s.outbound ++ [operandCode0 x s, operandCode1 x s, 0x0A#8]
        answers := rest, status := .ok, done := true, phase := .idle }

/-- WRARG on an answering transport (rules R92, R132). That BUF keeps its bytes at the end is the model's
choice (log 24). -/
def Obligations.WrargSendsAnArgumentPacket : Prop :=
  ∀ (x : Operands) (s : State) (rest : List Answer),
    s.phase = .idle → s.answers = .ok :: rest →
    ∃ u, exec (.wrarg x) s = .next u ∧ moves 1 u = .next
      { latch .wrarg x s with
        buf := [operandCode0 x s, operandCode1 x s, operandArg0 x s, operandArg1 x s, 0x0A#8]
          ++ s.buf.drop 5
        outbound := s.outbound ++
          [operandCode0 x s, operandCode1 x s, operandArg0 x s, operandArg1 x s, 0x0A#8]
        answers := rest, status := .ok, done := true, phase := .idle }

/-- A write that fails is reported at once and not tried again (rules R130, R134, R230); how much of the
packet reached the stream is any first part of it (rule R62, U3). That BUF keeps its bytes at the end is
the model's choice (log 24). -/
def Obligations.FailedWriteIsReportedOnce : Prop :=
  ∀ (x : Operands) (s : State) (rest : List Answer),
    s.phase = .idle → s.answers = .fail :: rest →
    (∃ u, ∃ k ≤ 3, exec (.wrcmd x) s = .next u ∧ moves 1 u = .next
      { latch .wrcmd x s with
        buf := [operandCode0 x s, operandCode1 x s, 0x0A#8] ++ s.buf.drop 3
        outbound := s.outbound ++ [operandCode0 x s, operandCode1 x s, 0x0A#8].take k
        answers := rest, draws := s.draws + 1
        status := .writeCmd, done := true, phase := .idle }) ∧
    (∃ u, ∃ k ≤ 5, exec (.wrarg x) s = .next u ∧ moves 1 u = .next
      { latch .wrarg x s with
        buf := [operandCode0 x s, operandCode1 x s, operandArg0 x s, operandArg1 x s, 0x0A#8]
          ++ s.buf.drop 5
        outbound := s.outbound ++
          [operandCode0 x s, operandCode1 x s, operandArg0 x s, operandArg1 x s, 0x0A#8].take k
        answers := rest, draws := s.draws + 1
        status := .writeArgs, done := true, phase := .idle })

/-! ### The Header/Param Response Decoder -/

/-- The header checksum function, of the two status bytes alone: the six low bits of the exact sum, which
are the sum modulo 64, plus 48, from 48 to 111 (rule R141). -/
def Obligations.HeaderChecksumFunction : Prop :=
  ∀ a b : Byte,
    hdrChk a b = ((a.toNat + b.toNat) &&& 0x3F) + 0x30 ∧
      hdrChk a b = (a.toNat + b.toNat) % 64 + 48 ∧ a.toNat + b.toNat ≤ 510 ∧
      48 ≤ hdrChk a b ∧ hdrChk a b ≤ 111

/-- `HDR_CHK_OK` compares the computed value with the whole transmitted byte (rule R142), over any
packet. -/
def Obligations.HeaderChecksumPredicate : Prop :=
  ∀ c d p q k : Byte,
    hdrChkOk [c, d, p, q, k] = true ↔ k.toNat = ((p.toNat + q.toNat) &&& 0x3F) + 0x30

/-- The laws of `HDR_CHK` (the spec derives them: 41_header_param_decoder.md section 3, "Laws of
`HDR_CHK` a model can prove and a test can use"): which sums collide, symmetry, the two high bits of a
status byte, 8-bit truncation, and the values at the corners. -/
def Obligations.HeaderChecksumLaws : Prop :=
  (∀ a b a' b' : Byte,
    hdrChk a b = hdrChk a' b' ↔ (a.toNat + b.toNat) % 64 = (a'.toNat + b'.toNat) % 64) ∧
  (∀ a b : Byte, hdrChk a b = hdrChk b a ∧ hdrChk (a ^^^ 0x40#8) b = hdrChk a b ∧
    hdrChk (a ^^^ 0x80#8) b = hdrChk a b ∧ ((a + b).toNat &&& 0x3F) + 0x30 = hdrChk a b) ∧
  hdrChk 0x00#8 0x00#8 = 0x30 ∧ hdrChk 0xFF#8 0xFF#8 = 0x6E ∧ hdrChk 0x3F#8 0x01#8 = 0x30 ∧
    hdrChk 0x3F#8 0x00#8 = 0x6F

/-- RDHDR on an answering transport: five bytes taken, then the checksum, then the echo, and RES the
packet when both pass (rules R144, R145); all else as it was. That BUF keeps its bytes at the end is the
model's choice (log 24). -/
def Obligations.RdhdrDecides : Prop :=
  ∀ (x : Operands) (s : State) (rest : List Answer) (c d p q k : Byte) (more : List Byte),
    s.phase = .idle → s.answers = .ok :: rest → s.inbound = [c, d, p, q, k] ++ more →
    let ended : State :=
      { latch .rdhdr x s with
        buf := [c, d, p, q, k] ++ s.buf.drop 5, inbound := more, answers := rest
        consumed := 5, done := true, phase := .idle }
    ∃ u, exec (.rdhdr x) s = .next u ∧ moves 2 u = .next
      (if k.toNat ≠ ((p.toNat + q.toNat) &&& 0x3F) + 0x30 then
        { ended with status := .headerChecksum }
      else if ¬(c = operandCode0 x s ∧ d = operandCode1 x s) then
        { ended with status := .headerCmd }
      else { ended with status := .ok, res := some [c, d, p, q, k], resLen := 5 })

/-- RDPRM on an answering transport: as RDHDR, with its own errors (rules R144, R146, the spec's decision
D5: the param packet has the header's layout). That BUF keeps its bytes at the end is the model's choice
(log 24). -/
def Obligations.RdprmDecides : Prop :=
  ∀ (x : Operands) (s : State) (rest : List Answer) (c d p q k : Byte) (more : List Byte),
    s.phase = .idle → s.answers = .ok :: rest → s.inbound = [c, d, p, q, k] ++ more →
    let ended : State :=
      { latch .rdprm x s with
        buf := [c, d, p, q, k] ++ s.buf.drop 5, inbound := more, answers := rest
        consumed := 5, done := true, phase := .idle }
    ∃ u, exec (.rdprm x) s = .next u ∧ moves 2 u = .next
      (if k.toNat ≠ ((p.toNat + q.toNat) &&& 0x3F) + 0x30 then
        { ended with status := .paramChecksum }
      else if ¬(c = operandCode0 x s ∧ d = operandCode1 x s) then
        { ended with status := .paramCmd }
      else { ended with status := .ok, res := some [c, d, p, q, k], resLen := 5 })

/-- The order of a response's checks: the read, then the checksum, then the echo, the first failing one
deciding; a packet that fails both reports the checksum, and after a failed read neither check is made
(rule R144). -/
def Obligations.ResponseChecksAreOrdered : Prop :=
  ∀ (x : Operands) (s : State) (i : Instr) (readError checksumError echoError : Status),
    s.phase = .idle →
    (i, readError, checksumError, echoError) ∈
      [(Instr.rdhdr x, Status.readHeader, Status.headerChecksum, Status.headerCmd),
       (.rdprm x, .readParam, .paramChecksum, .paramCmd)] →
    (∀ rest, s.answers = .fail :: rest →
      ∃ u t, exec i s = .next u ∧ moves 1 u = .next t ∧ t.done = true ∧ t.status = readError) ∧
    (∀ (rest : List Answer) (c d p q k : Byte) (more : List Byte),
      s.answers = .ok :: rest → s.inbound = [c, d, p, q, k] ++ more →
      ∃ u t, exec i s = .next u ∧ moves 2 u = .next t ∧ t.done = true ∧
        t.status =
          (if ¬ hdrChkOk [c, d, p, q, k] = true then checksumError
           else if ¬ echoOk [c, d, p, q, k] (operandCode0 x s) (operandCode1 x s) = true then
             echoError
           else .ok))

/-- The checksum does not cover the echo (rule R149): a packet with a right checksum and a wrong echo
ends with the command error, never with the checksum error. -/
def Obligations.WrongEchoIsACommandError : Prop :=
  ∀ (x : Operands) (s : State) (rest : List Answer) (c d p q k : Byte) (more : List Byte),
    s.phase = .idle → s.answers = .ok :: rest → s.inbound = [c, d, p, q, k] ++ more →
    hdrChkOk [c, d, p, q, k] = true →
    c ≠ operandCode0 x s ∨ d ≠ operandCode1 x s →
    (∃ u t, exec (.rdhdr x) s = .next u ∧ moves 2 u = .next t ∧ t.done = true ∧
      t.status = .headerCmd) ∧
    (∃ u t, exec (.rdprm x) s = .next u ∧ moves 2 u = .next t ∧ t.done = true ∧
      t.status = .paramCmd)

/-- The flipped checksum (41_header_param_decoder.md section 3, which the spec derives): of a packet
that would be accepted, a changed checksum byte ends both decoders with the checksum error. -/
def Obligations.FlippedChecksumIsAChecksumError : Prop :=
  ∀ (x : Operands) (s : State) (rest : List Answer) (p q k k' : Byte) (more : List Byte),
    s.phase = .idle → s.answers = .ok :: rest →
    s.inbound = [operandCode0 x s, operandCode1 x s, p, q, k'] ++ more →
    hdrChkOk [operandCode0 x s, operandCode1 x s, p, q, k] = true → k' ≠ k →
    (∃ u t, exec (.rdhdr x) s = .next u ∧ moves 2 u = .next t ∧ t.done = true ∧
      t.status = .headerChecksum) ∧
    (∃ u t, exec (.rdprm x) s = .next u ∧ moves 2 u = .next t ∧ t.done = true ∧
      t.status = .paramChecksum)

/-! ### The Info Response Decoders -/

/-- RDMOTOR on an answering transport, for every packet length: the echo alone decides, the payload is
returned raw (rules R97, R192, R195). That BUF keeps its bytes at the end is the model's choice (log
24). -/
def Obligations.RdmotorDecides : Prop :=
  ∀ (x : Operands) (s : State) (rest : List Answer) (c d : Byte) (payload more : List Byte),
    s.phase = .idle → s.answers = .ok :: rest → payload.length = s.cfg.motorPayloadLen →
    s.inbound = c :: d :: (payload ++ more) →
    let ended : State :=
      { latch .rdmotor x s with
        buf := (c :: d :: payload) ++ s.buf.drop (payload.length + 2)
        inbound := more, answers := rest, consumed := payload.length + 2
        done := true, phase := .idle }
    ∃ u, exec (.rdmotor x) s = .next u ∧ moves 2 u = .next
      (if c = operandCode0 x s ∧ d = operandCode1 x s then
        { ended with
          status := .ok, res := some (c :: d :: payload), resLen := payload.length + 2 }
      else { ended with status := .motorCmd })

/-- RDRATE on an answering transport, for every packet length (rules R97, R193, R195). That BUF keeps its
bytes at the end is the model's choice (log 24). -/
def Obligations.RdrateDecides : Prop :=
  ∀ (x : Operands) (s : State) (rest : List Answer) (c d : Byte) (payload more : List Byte),
    s.phase = .idle → s.answers = .ok :: rest → payload.length = s.cfg.ratePayloadLen →
    s.inbound = c :: d :: (payload ++ more) →
    let ended : State :=
      { latch .rdrate x s with
        buf := (c :: d :: payload) ++ s.buf.drop (payload.length + 2)
        inbound := more, answers := rest, consumed := payload.length + 2
        done := true, phase := .idle }
    ∃ u, exec (.rdrate x) s = .next u ∧ moves 2 u = .next
      (if c = operandCode0 x s ∧ d = operandCode1 x s then
        { ended with
          status := .ok, res := some (c :: d :: payload), resLen := payload.length + 2 }
      else { ended with status := .rateCmd })

/-- An info packet cannot produce a checksum error: RDMOTOR and RDRATE test the read, then the echo, and
nothing else (rule R195). -/
def Obligations.InfoHasNoChecksumError : Prop :=
  ∀ (x : Operands) (s u t : State) (n : Nat), s.phase = .idle →
    (exec (.rdmotor x) s = .next u ∨ exec (.rdrate x) s = .next u) →
    moves n u = .next t → t.done = true →
    errorKind t.status ≠ some .checksum ∧
    (errorKind t.status = some .transport ↔ s.answers.head? = some .fail) ∧
    (errorKind t.status = some .echo ↔
      s.answers.head? = some .ok ∧ echoOk s.inbound (operandCode0 x s) (operandCode1 x s) = false)

/-- A read that fails ends every read operation with its own transport error, no check is made, and the
stream's position is from none to all of the bytes asked for past the last known one: bytes that have not
arrived are lost as they do (rules R65, R145, R146, R168, R192, R193, U3). That BUF keeps its bytes at
the end is the model's choice (log 24). -/
def Obligations.FailedReadEndsTheOperation : Prop :=
  ∀ (x : Operands) (s : State) (rest : List Answer) (i : Instr) (op : OpSel) (n : Nat)
    (err : Status),
    s.phase = .idle → s.answers = .fail :: rest →
    (i, op, n, err) ∈
      [(Instr.rdhdr x, OpSel.rdhdr, 5, Status.readHeader),
       (.rdprm x, .rdprm, 5, .readParam),
       (.rdscan x, .rdscan, recordLen s.cfg, .scanRead),
       (.rdmotor x, .rdmotor, s.cfg.motorPayloadLen + 2, .readMotor),
       (.rdrate x, .rdrate, s.cfg.ratePayloadLen + 2, .readRate)] →
    ∃ u, ∃ k ≤ n, exec i s = .next u ∧ moves 1 u = .next
      { latch op x s with
        inbound := s.inbound.drop k, skip := s.skip + (k - s.inbound.length)
        answers := rest, draws := s.draws + 1
        status := err, done := true, phase := .idle }

/-! ### The scan checks -/

/-- `SCAN_SUM` and `SCAN_CHK`: the sum of the fields is the sum of the window's bytes in both angle
orders, at most 1260 and never truncated; the checksum is its remainder modulo 15 (rule R158; the
second form and the exact width are the spec's own reading, D8). -/
def Obligations.ScanSumOfFieldsIsSumOfBytes : Prop :=
  ∀ (order : AngleOrder) (b0 b1 b2 b3 b4 : Byte) (tail : List Byte),
    let w := b0 :: b1 :: b2 :: b3 :: b4 :: tail
    scanSumOfFields order w = scanSum w ∧
    scanSum w = b0.toNat + b1.toNat + b2.toNat + b3.toNat + (b4 &&& 0xF0#8).toNat ∧
    scanSum w ≤ 1260 ∧ scanChk w = scanSum w % 15

/-- `SCAN_CHK_OK` compares with the whole last byte in layout L6 and with the low nibble of byte 4 in L5,
so that a byte of 15 or more, or a nibble of 15, never passes (rule R159). -/
def Obligations.ScanChecksumPredicate : Prop :=
  ∀ b0 b1 b2 b3 b4 b5 : Byte,
    (scanChkOk .l6 [b0, b1, b2, b3, b4, b5] = true ↔
      scanChk [b0, b1, b2, b3, b4, b5] = b5.toNat) ∧
    (15 ≤ b5.toNat → scanChkOk .l6 [b0, b1, b2, b3, b4, b5] = false) ∧
    (scanChkOk .l5 [b0, b1, b2, b3, b4] = true ↔
      scanChk [b0, b1, b2, b3, b4] = b4.toNat % 16) ∧
    (b4.toNat % 16 = 15 → scanChkOk .l5 [b0, b1, b2, b3, b4] = false)

/-- `SCAN_SYNC_OK`: of the four values of `(s2, s1)` only `(0, 1)` passes (rule R160). -/
def Obligations.OnlySyncPattern01Passes : Prop :=
  ∀ (b : Byte) (tail : List Byte),
    (scanSyncOk (b :: tail) = true ↔ b &&& 0x03#8 = 0x01#8) ∧
    (scanSyncOk (b :: tail) = true ↔ scanS1 (b :: tail) = 1#1 ∧ scanS2 (b :: tail) = 0#1) ∧
    (scanSyncOk (b :: tail) = true ↔ b.toNat % 4 = 1)

/-- Validity needs BOTH checks: wrong sync bits reject a window whose checksum matches, in both layouts,
and the sync bits are themselves in the sum: a flipped one changes it (rule R161). -/
def Obligations.ScanValidityNeedsBoth : Prop :=
  (∀ (layout : ScanLayout) (w : List Byte),
    (scanValid layout w = true ↔ scanChkOk layout w = true ∧ scanSyncOk w = true) ∧
    (scanValid layout w = true ↔
      scanChk w = scanTxChk layout w ∧ scanS1 w = 1#1 ∧ scanS2 w = 0#1) ∧
    (scanS1 w = 0#1 ∨ scanS2 w = 1#1 → scanValid layout w = false)) ∧
  (∀ (b : Byte) (tail : List Byte),
    scanSum ((b ^^^ 0x01#8) :: tail) ≠ scanSum (b :: tail) ∧
    scanSum ((b ^^^ 0x02#8) :: tail) ≠ scanSum (b :: tail))

/-- The laws of `SCAN_CHK` (the spec derives them: 42_scan_resync.md section 4, "Laws of `SCAN_CHK` a
model can prove and a test can use"): the range, the nibble sum, undetected corruptions, the symmetry of
the four data bytes, and the 8-bit truncation that would differ. -/
def Obligations.ScanChecksumLaws : Prop :=
  (∀ w : List Byte, scanChk w ≤ 14 ∧ scanChk w = nibbleSum w % 15) ∧
  (∀ w w' : List Byte, nibbleSum w % 15 = nibbleSum w' % 15 → scanChk w = scanChk w') ∧
  (∀ (a b c d e : Byte) (tail : List Byte),
    scanChk (a :: b :: c :: d :: e :: tail) = scanChk (b :: a :: c :: d :: e :: tail) ∧
    scanChk (a :: b :: c :: d :: e :: tail) = scanChk (a :: c :: b :: d :: e :: tail) ∧
    scanChk (a :: b :: c :: d :: e :: tail) = scanChk (a :: b :: d :: c :: e :: tail)) ∧
  scanSum [0xFD#8, 0xFF#8, 0xFF#8, 0xFF#8, 0xF0#8] = 1258 ∧
  scanChk [0xFD#8, 0xFF#8, 0xFF#8, 0xFF#8, 0xF0#8] = 13

/-! ### RDSCAN -/

/-- RDSCAN returns the FIRST valid window: with the windows at offsets 0 to k-1 invalid, the one at k
valid and k within the bound, it ends OK with that window, having taken exactly N + k bytes in k + 1
reads, and all else is as it was (rules R163, R165 to R167; the spec derives the last two, and the check
of the window after the last shift is its decision D9). That BUF keeps its bytes at the end is the
model's choice (log 24). -/
def Obligations.RdscanReturnsTheFirstValidWindow : Prop :=
  ∀ (x : Operands) (s : State) (k : Nat) (rest : List Answer),
    s.phase = .idle → s.answers = okAnswers (k + 1) ++ rest →
    recordLen s.cfg + k ≤ s.inbound.length → k ≤ s.cfg.maxShifts →
    (∀ j < k, validAt s.cfg s.inbound j = false) → validAt s.cfg s.inbound k = true →
    ∃ u, exec (.rdscan x) s = .next u ∧ moves (2 * k + 2) u = .next
      { latch .rdscan x s with
        buf := windowAt s.cfg s.inbound k ++ s.buf.drop (recordLen s.cfg)
        inbound := s.inbound.drop (recordLen s.cfg + k), answers := rest
        consumed := recordLen s.cfg + k, shifts := k
        status := .ok, done := true, phase := .idle
        res := some (windowAt s.cfg s.inbound k), resLen := recordLen s.cfg }

/-- RDSCAN with no valid window at the offsets 0 to MAX_SHIFTS ends with the bound error, having taken
exactly N + MAX_SHIFTS bytes (rules R165, R167, R168). That BUF keeps its bytes at the end is the model's
choice (log 24). -/
def Obligations.RdscanStopsAtTheBound : Prop :=
  ∀ (x : Operands) (s : State) (rest : List Answer),
    s.phase = .idle → s.answers = okAnswers (s.cfg.maxShifts + 1) ++ rest →
    recordLen s.cfg + s.cfg.maxShifts ≤ s.inbound.length →
    (∀ j ≤ s.cfg.maxShifts, validAt s.cfg s.inbound j = false) →
    ∃ u, exec (.rdscan x) s = .next u ∧ moves (2 * s.cfg.maxShifts + 2) u = .next
      { latch .rdscan x s with
        buf := windowAt s.cfg s.inbound s.cfg.maxShifts ++ s.buf.drop (recordLen s.cfg)
        inbound := s.inbound.drop (recordLen s.cfg + s.cfg.maxShifts), answers := rest
        consumed := recordLen s.cfg + s.cfg.maxShifts, shifts := s.cfg.maxShifts
        status := .scanBound, done := true, phase := .idle }

/-- RDSCAN whose refill number f fails after f invalid windows ends with the read error, with no result,
N + f - 1 bytes taken, and at most one more lost (rules R168, R176, U3). That BUF keeps its bytes at the
end is the model's choice (log 24). -/
def Obligations.RdscanRefillFailureEndsIt : Prop :=
  ∀ (x : Operands) (s : State) (f : Nat) (rest : List Answer),
    s.phase = .idle → s.answers = okAnswers (f + 1) ++ .fail :: rest →
    recordLen s.cfg + f ≤ s.inbound.length → f < s.cfg.maxShifts →
    (∀ j ≤ f, validAt s.cfg s.inbound j = false) →
    ∃ u, ∃ lost ≤ 1, exec (.rdscan x) s = .next u ∧ moves (2 * f + 3) u = .next
      { latch .rdscan x s with
        buf := windowAt s.cfg s.inbound f ++ s.buf.drop (recordLen s.cfg)
        inbound := s.inbound.drop (recordLen s.cfg + f + lost)
        skip := s.skip + (lost - (s.inbound.length - (recordLen s.cfg + f)))
        answers := rest, draws := s.draws + 1
        consumed := recordLen s.cfg + f, shifts := f
        status := .scanRead, done := true, phase := .idle }

/-- The window after k shifts: after the first read and k shifts, which are k + 1 transactions and the k
checks between them, BUF holds the stream's bytes k to k+N-1 in its window, to be checked next, and SHIFTS
is k (rule R166, which the spec derives). -/
def Obligations.WindowAfterShiftsIsTheStreamAtOffset : Prop :=
  ∀ (x : Operands) (s : State) (k : Nat) (rest : List Answer),
    s.phase = .idle → s.answers = okAnswers (k + 1) ++ rest →
    recordLen s.cfg + k ≤ s.inbound.length → k ≤ s.cfg.maxShifts →
    (∀ j < k, validAt s.cfg s.inbound j = false) →
    ∃ u, exec (.rdscan x) s = .next u ∧ moves (2 * k + 1) u = .next
      { latch .rdscan x s with
        buf := windowAt s.cfg s.inbound k ++ s.buf.drop (recordLen s.cfg)
        inbound := s.inbound.drop (recordLen s.cfg + k), answers := rest
        consumed := recordLen s.cfg + k, shifts := k, phase := .check }

/-- One extra leading byte (42_scan_resync.md section 4; the exact form is the spec's resolution C4): a
garbage byte g before a valid record costs one shift and no byte of the record or after it. -/
def Obligations.OneGarbageByteCostsOneShift : Prop :=
  ∀ (x : Operands) (s : State) (g : Byte) (record after : List Byte) (rest : List Answer),
    s.phase = .idle → s.answers = .ok :: .ok :: rest → 1 ≤ s.cfg.maxShifts →
    record.length = recordLen s.cfg → s.inbound = g :: (record ++ after) →
    scanValid s.cfg.scanLayout record = true →
    scanValid s.cfg.scanLayout ((g :: record).take (recordLen s.cfg)) = false →
    ∃ u t, exec (.rdscan x) s = .next u ∧ moves 4 u = .next t ∧
      t.status = .ok ∧ t.done = true ∧ t.res = some record ∧
      t.shifts = 1 ∧ t.consumed = recordLen s.cfg + 1 ∧ t.inbound = after

/-- A line that reads as zeros runs RDSCAN to the bound in both layouts, for every bound
(42_scan_resync.md section 4 (f), which the spec derives): its checksum matches, its sync bits do not. -/
def Obligations.SilentLineExhaustsTheBound : Prop :=
  ∀ (x : Operands) (s : State) (m : Nat),
    s.phase = .idle → s.answers = okAnswers (s.cfg.maxShifts + 1) →
    s.inbound = List.replicate (recordLen s.cfg + s.cfg.maxShifts + m) 0x00#8 →
    scanChkOk s.cfg.scanLayout (windowAt s.cfg s.inbound 0) = true ∧
    ∃ u t, exec (.rdscan x) s = .next u ∧ moves (2 * s.cfg.maxShifts + 2) u = .next t ∧
      t.done = true ∧ t.status = .scanBound ∧ t.res = none ∧
      t.shifts = s.cfg.maxShifts ∧ t.consumed = recordLen s.cfg + s.cfg.maxShifts ∧
      t.inbound.length = m

/-- What RDSCAN accepts: the record has s1 = 1, s2 = 0 and the checksum of its own data terms, from 0 to
14, and `RECORD_LEN` bytes (rule R169). -/
def Obligations.AcceptedRecordIsValid : Prop :=
  ∀ (x : Operands) (s u t : State) (n : Nat),
    exec (.rdscan x) s = .next u → moves n u = .next t → t.done = true → t.status = .ok →
    ∃ w, t.res = some w ∧ w.length = recordLen s.cfg ∧
      (scanRecordOf s.cfg w).s1 = 1#1 ∧ (scanRecordOf s.cfg w).s2 = 0#1 ∧
      (scanRecordOf s.cfg w).checksum = scanChk w ∧ scanChk w ≤ 14

/-- The host reads the fields of a scan record back from its packet, in both layouts and both angle
orders (rules R48, R95 to R102: the layouts are the spec's decisions D1 to D4). -/
def Obligations.ScanFieldsReadBack : Prop :=
  ∀ (cfg : Config) (l : BitVec 5) (v : BitVec 1) (h a b : Byte) (r y : BitVec 4) (k : Byte),
    let angle : BitVec 16 := match cfg.angleOrder with
      | .le => b ++ a
      | .be => a ++ b
    (cfg.scanLayout = .l6 → scanRecordOf cfg (packScanL6 l v h a b r y k) =
      { s1 := 1#1, s2 := 0#1, vhl := v, distanceLow := l, distanceHigh := h, angle := angle
        vrect := r, checksum := k.toNat }) ∧
    (cfg.scanLayout = .l5 → scanRecordOf cfg (packScanL5 l v h a b r y) =
      { s1 := 1#1, s2 := 0#1, vhl := v, distanceLow := l, distanceHigh := h, angle := angle
        vrect := r, checksum := y.toNat })

/-! ### Every operation -/

/-- The closed table of outcomes (60_exceptions.md section 1, which the spec derives): an operation that
has finished has one of its own statuses, and an error leaves no result. -/
def Obligations.OutcomesStayInTheTable : Prop :=
  ∀ (i : Instr) (op : OpSel) (s u t : State) (n : Nat),
    begins i = some op → exec i s = .next u → moves n u = .next t → t.done = true →
    t.phase = .idle ∧ t.opsel = op ∧ t.status ∈ mayFinishWith op ∧
      (t.status ≠ .ok ∨ readLen s.cfg op = none → t.res = none ∧ t.resLen = 0)

/-- After a transaction answers `Fail` the operation makes no further one: the failing answer is the last
it used, and it ends with a transport error (rule R230). -/
def Obligations.NoTransactionAfterAFailure : Prop :=
  ∀ (i : Instr) (op : OpSel) (s u t : State) (n : Nat),
    begins i = some op → exec i s = .next u → moves n u = .next t →
    ∃ used, s.answers = used ++ t.answers ∧
      (Answer.fail ∈ used → t.done = true ∧ errorKind t.status = some .transport ∧
        ∃ before, used = before ++ [.fail] ∧ .fail ∉ before)

/-- Kinds stay distinct: an operation ends with a transport error exactly when a transaction of its own
answered `Fail`, so a transport failure is never reported as a checksum or echo error nor the other way
round; and only RDSCAN's two errors share a message across kinds (rule R227). -/
def Obligations.KindsStayDistinct : Prop :=
  (∀ (i : Instr) (op : OpSel) (s u t : State) (n : Nat),
    begins i = some op → exec i s = .next u → moves n u = .next t → t.done = true →
    ∃ used, s.answers = used ++ t.answers ∧
      (errorKind t.status = some .transport ↔ Answer.fail ∈ used)) ∧
  (∀ a b : Status, errorKind a ≠ errorKind b → message a = message b →
    (a = .scanRead ∧ b = .scanBound) ∨ (a = .scanBound ∧ b = .scanRead))

/-- The number of transactions, which are the answers used: every operation but RDSCAN makes one, and has
made exactly one when it has finished; RDSCAN makes at most MAX_SHIFTS + 1, and one plus one per shift when
it has finished with no failure (rules R72, R165, R175, R280). -/
def Obligations.TransactionCountIsBounded : Prop :=
  ∀ (i : Instr) (op : OpSel) (s u t : State) (n : Nat),
    begins i = some op → exec i s = .next u → moves n u = .next t →
    ∃ used, s.answers = used ++ t.answers ∧
      used.length ≤ (if op = .rdscan then s.cfg.maxShifts + 1 else 1) ∧
      (t.done = true → op ≠ .rdscan → used.length = 1) ∧
      (t.done = true → op = .rdscan → Answer.fail ∉ used → used.length = t.shifts + 1)

/-- No operation mixes reads and writes: the writing ones take no byte, the reading ones send none
(rule R72). -/
def Obligations.OperationsNeverMixDirections : Prop :=
  ∀ (i : Instr) (op : OpSel) (s u t : State) (n : Nat),
    begins i = some op → exec i s = .next u → moves n u = .next t →
    (op = .wrcmd ∨ op = .wrarg → t.inbound = s.inbound ∧ t.consumed = 0) ∧
    (op ≠ .wrcmd ∧ op ≠ .wrarg → t.outbound = s.outbound)

/-- Bytes leave the stream in order and once: with no failure, an operation leaves exactly the bytes
after the CONSUMED ones (rules R64, R74; the stream model is the spec's decision D29). -/
def Obligations.ConsumedBytesLeaveTheStream : Prop :=
  ∀ (i : Instr) (op : OpSel) (s u t : State) (n : Nat),
    begins i = some op → exec i s = .next u → moves n u = .next t → Answer.fail ∉ s.answers →
    t.consumed ≤ s.inbound.length ∧ t.inbound = s.inbound.drop t.consumed

/-- Every operation ends, within the moves that `operate` makes, if the transport answers every transaction
(rules R175, R272). -/
def Obligations.AnsweredOperationsFinish : Prop :=
  ∀ (i : Instr) (op : OpSel) (s : State),
    begins i = some op → s.phase = .idle → s.cfg.maxShifts + 1 ≤ s.answers.length →
    bufLen s.cfg + s.cfg.maxShifts ≤ s.inbound.length →
    ∃ u t, exec i s = .next u ∧ operate u = .next t ∧ t.done = true ∧ t.phase = .idle

/-! ### Codes, packets and whole exchanges -/

/-- Each command-code constant puts its two letters in the host's code operand and changes nothing else,
whether or not an operation runs (rule R200 gives the bytes; that the constant is an input of its own
is the model's choice, log 8). -/
def Obligations.CodeConstantsSetTheHostOperand : Prop :=
  ∀ (s : State) (i : Instr) (c0 c1 : Byte),
    (i, c0, c1) ∈
      [(Instr.dataAcquisitionStart, 0x44#8, 0x53#8), (.dataAcquisitionStop, 0x44#8, 0x58#8),
       (.motorSpeedAdjust, 0x4D#8, 0x53#8), (.motorInformation, 0x4D#8, 0x49#8),
       (.sampleRateAdjust, 0x4C#8, 0x52#8), (.sampleRateInformation, 0x4C#8, 0x49#8),
       (.versionInformation, 0x49#8, 0x56#8), (.deviceInformation, 0x49#8, 0x44#8),
       (.resetDevice, 0x52#8, 0x52#8), (.deviceCalibration, 0x43#8, 0x53#8)] →
    exec i s = .next { s with hostCode0 := c0, hostCode1 := c1 }

/-- An inbound packet arrives behind the bytes already there, but for bytes that a failed read has lost
already, and changes nothing else, whether or not an operation runs (the layouts of rules R93 to R97, the
loss of rule R65; that a packet row is an arrival is the model's choice, log 9). -/
def Obligations.InboundPacketsJoinTheStream : Prop :=
  ∀ (s : State) (c d p q k h a b : Byte) (l : BitVec 5) (v : BitVec 1) (r y z : BitVec 4)
    (payload : List Byte),
    exec (.hdr c d p q k) s = .next { s with
      inbound := s.inbound ++ [c, d, p, q, k].drop s.skip, skip := s.skip - 5 } ∧
    exec (.prm c d p q k) s = .next { s with
      inbound := s.inbound ++ [c, d, p, q, k].drop s.skip, skip := s.skip - 5 } ∧
    exec (.scanL6 l v h a b r y k) s = .next { s with
      inbound := s.inbound ++
        [(l ++ v ++ 0b01#2 : BitVec 8), h, a, b, (r ++ y : BitVec 8), k].drop s.skip
      skip := s.skip - 6 } ∧
    exec (.scanL5 l v h a b r z) s = .next { s with
      inbound := s.inbound ++
        [(l ++ v ++ 0b01#2 : BitVec 8), h, a, b, (r ++ z : BitVec 8)].drop s.skip
      skip := s.skip - 5 } ∧
    exec (.info c d payload) s = .next { s with
      inbound := s.inbound ++ (c :: d :: payload).drop s.skip
      skip := s.skip - (payload.length + 2) }

/-- An outbound packet is on the stream because its operation wrote it: BARE as WRCMD writes it, ARGPKT
as WRARG does (rules R91, R92: "Written by WRCMD", "Written by WRARG"; that the packet row begins that
operation is the model's choice, log 9). That BUF keeps its bytes at the end is the model's choice (log
24). -/
def Obligations.OutboundPacketsAreWrittenByTheirOperation : Prop :=
  ∀ (c d a b : Byte) (s : State) (rest : List Answer),
    s.phase = .idle → s.answers = .ok :: rest →
    (∃ u, exec (.bare c d) s = .next u ∧ moves 1 u = .next
      { latch .wrcmd (.given c d s.hostArg0 s.hostArg1) s with
        buf := [c, d, 0x0A#8] ++ s.buf.drop 3, outbound := s.outbound ++ [c, d, 0x0A#8]
        answers := rest, status := .ok, done := true, phase := .idle }) ∧
    ∃ u, exec (.argpkt c d a b) s = .next u ∧ moves 1 u = .next
      { latch .wrarg (.given c d a b) s with
        buf := [c, d, a, b, 0x0A#8] ++ s.buf.drop 5
        outbound := s.outbound ++ [c, d, a, b, 0x0A#8]
        answers := rest, status := .ok, done := true, phase := .idle }

/-- The source's round trip (rule R201, 95_test_vectors.md S5): the host names DATA_ACQUISITION_START,
sends it with WRCMD, starts RDHDR with the same code, and a header with that echo and the right checksum
arrives: the bytes 44 53 0A are on the outbound stream and the status bytes come back unmodified. The
arrival and the operand forms are the model's choices, logs 7 to 9. -/
def Obligations.CommandRoundTrip : Prop :=
  ∀ (s : State) (p q k : Byte),
    s.phase = .idle → s.answers = okAnswers 2 → s.inbound = [] → s.skip = 0 →
    k.toNat = hdrChk p q →
    ∃ s1 s2 s3 s4 s5 s6,
      exec .dataAcquisitionStart s = .next s1 ∧
      exec (.wrcmd .ports) s1 = .next s2 ∧ moves 1 s2 = .next s3 ∧
      s3.status = .ok ∧ s3.done = true ∧
      s3.outbound = s.outbound ++ [0x44#8, 0x53#8, 0x0A#8] ∧
      exec (.rdhdr .ports) s3 = .next s4 ∧ s4.phase = .fill ∧ s4.done = false ∧
      canMove s4 = false ∧
      exec (.hdr 0x44#8 0x53#8 p q k) s4 = .next s5 ∧ canMove s5 = true ∧
      moves 2 s5 = .next s6 ∧ s6.done = true ∧ s6.status = .ok ∧
      hostReadRes s6 = .next [0x44#8, 0x53#8, p, q, k] ∧
      (responseOf [0x44#8, 0x53#8, p, q, k]).status1 = p ∧
      (responseOf [0x44#8, 0x53#8, p, q, k]).status2 = q ∧
      s6.outbound = s3.outbound ∧ s6.inbound = []

/-! ### Reset, and what the host reads -/

/-- What reset leaves where the spec gives a value (10_state.md section 6, the spec's decision D15). -/
def Obligations.ResetLeavesTheFramerIdle : Prop :=
  State.reset.phase = .idle ∧ State.reset.done = false ∧ State.reset.status = .ok ∧
    State.reset.shifts = 0 ∧ State.reset.res = none ∧ State.reset.resLen = 0 ∧
    busy State.reset = false

/-- The block's reset, asserted by the host at any moment, leaves the reset values, idle or not, and
touches neither the host's copy of the operands nor CONSUMED nor the configuration. When a transaction is
outstanding it may or may not have taken effect: a first part of the packet was sent, or the stream's
position is 0 to n bytes past the last known one, n being 1 in REFILL, and the answer settled for it, if
any, goes with it (10_state.md section 6, 70_reset_and_hazards.md section 1, U9: decisions of the spec;
the values of the registers that R51 calls unspecified are the model's, log 1, and so is what becomes of
the answer, log 14). -/
def Obligations.ResetInputAbandonsTheOperation : Prop :=
  ∀ (s : State) (rest : List HostInput),
    nextAgent s = some .host → s.program = .reset :: rest →
    let cleared : State :=
      { s with
        program := rest, turns := s.turns.tail
        opsel := .reserved, code0 := 0#8, code1 := 0#8, arg0 := 0#8, arg1 := 0#8
        phase := .idle, buf := List.replicate (bufLen s.cfg) 0#8, shifts := 0
        status := .ok, done := false, res := none, resLen := 0 }
    (s.phase = .idle ∨ s.phase = .check → step s = .next cleared) ∧
    (s.phase = .write → s.opsel = .wrcmd → ∃ k ≤ 3, step s = .next
      { cleared with
        outbound := s.outbound ++ [s.code0, s.code1, 0x0A#8].take k
        answers := s.answers.tail, draws := s.draws + 1 }) ∧
    (s.phase = .write → s.opsel = .wrarg → ∃ k ≤ 5, step s = .next
      { cleared with
        outbound := s.outbound ++ [s.code0, s.code1, s.arg0, s.arg1, 0x0A#8].take k
        answers := s.answers.tail, draws := s.draws + 1 }) ∧
    (∀ n, s.phase = .fill → readLen s.cfg s.opsel = some n → ∃ k ≤ n, step s = .next
      { cleared with
        inbound := s.inbound.drop k, skip := s.skip + (k - s.inbound.length)
        answers := s.answers.tail, draws := s.draws + 1 }) ∧
    (s.phase = .refill → s.opsel = .rdscan → ∃ k ≤ 1, step s = .next
      { cleared with
        inbound := s.inbound.drop k, skip := s.skip + (k - s.inbound.length)
        answers := s.answers.tail, draws := s.draws + 1 })

/-- RES may be read exactly when DONE is 1, STATUS is 0 and the finished operation is a read; at any other
time the read is a fault (70_reset_and_hazards.md section 3, U11: the spec's decision D19). -/
def Obligations.ResReadableExactlyAfterASuccessfulRead : Prop :=
  ∀ s : State, Sound s →
    ((∃ w, hostReadRes s = .next w) ↔
      s.done = true ∧ s.status = .ok ∧ readLen s.cfg s.opsel ≠ none) ∧
    ((∀ w, hostReadRes s ≠ .next w) → hostReadRes s = .fault .resNoValue)

/-- The table of outcomes, row by row: the number, the kind and the message of each (60_exceptions.md
section 1; the numbers and the expansion of the messages are the spec's decisions D11 and D27), no two
outcomes with one number; and the message the host reads of a finished operation that ended in an error is
the table's, and of any other there is none: it is refused (rule R218, U6, and log 13 for a STATUS read
before DONE). -/
def Obligations.StatusTable : Prop :=
  (∀ r ∈ [(Status.ok, 0, none, none),
      (.writeCmd, 1, some ErrorKind.transport, some "unable to write command"),
      (.writeArgs, 2, some .transport, some "unable to write command with arguments"),
      (.readHeader, 3, some .transport, some "unable to read response header"),
      (.headerChecksum, 4, some .checksum, some "invalid response header checksum"),
      (.headerCmd, 5, some .echo, some "invalid header response commands"),
      (.readParam, 6, some .transport, some "unable to read response param"),
      (.paramChecksum, 7, some .checksum, some "invalid response param checksum"),
      (.paramCmd, 8, some .echo, some "invalid param response commands"),
      (.scanRead, 9, some .transport, some "invalid scan response commands"),
      (.scanBound, 10, some .bound, some "invalid scan response commands"),
      (.readMotor, 11, some .transport, some "unable to read response motor info"),
      (.motorCmd, 12, some .echo, some "invalid motor info response commands"),
      (.readRate, 13, some .transport, some "unable to read response sample rate info"),
      (.rateCmd, 14, some .echo, some "invalid sample rate info response commands")],
    (statusCode r.1).toNat = r.2.1 ∧ errorKind r.1 = r.2.2.1 ∧ message r.1 = r.2.2.2) ∧
  (∀ a b : Status, statusCode a = statusCode b → a = b) ∧
  (∀ (s : State) (m : String),
    hostReadMessage s = .next m ↔ s.done = true ∧ message s.status = some m) ∧
  (∀ s : State, s.done = false ∨ s.status = .ok → hostReadMessage s = .refused .noMessage)
end

