-- ==== Sys2Proof/Laws/State.lean ====
section
/-! SUPPORT. For each named update of the state, each field after it: true by rfl, so that no proof
unfolds a record update. -/

namespace Sys2Proof.Machine

variable (s : State)

/-! ### `toPhase` -/

@[simp] theorem toPhase_cfg (p : Phase) : (toPhase p s).cfg = s.cfg := rfl
@[simp] theorem toPhase_opsel (p : Phase) : (toPhase p s).opsel = s.opsel := rfl
@[simp] theorem toPhase_code0 (p : Phase) : (toPhase p s).code0 = s.code0 := rfl
@[simp] theorem toPhase_code1 (p : Phase) : (toPhase p s).code1 = s.code1 := rfl
@[simp] theorem toPhase_arg0 (p : Phase) : (toPhase p s).arg0 = s.arg0 := rfl
@[simp] theorem toPhase_arg1 (p : Phase) : (toPhase p s).arg1 = s.arg1 := rfl
@[simp] theorem toPhase_phase (p : Phase) : (toPhase p s).phase = p := rfl
@[simp] theorem toPhase_buf (p : Phase) : (toPhase p s).buf = s.buf := rfl
@[simp] theorem toPhase_shifts (p : Phase) : (toPhase p s).shifts = s.shifts := rfl
@[simp] theorem toPhase_status (p : Phase) : (toPhase p s).status = s.status := rfl
@[simp] theorem toPhase_done (p : Phase) : (toPhase p s).done = s.done := rfl
@[simp] theorem toPhase_res (p : Phase) : (toPhase p s).res = s.res := rfl
@[simp] theorem toPhase_resLen (p : Phase) : (toPhase p s).resLen = s.resLen := rfl
@[simp] theorem toPhase_hostCode0 (p : Phase) : (toPhase p s).hostCode0 = s.hostCode0 := rfl
@[simp] theorem toPhase_hostCode1 (p : Phase) : (toPhase p s).hostCode1 = s.hostCode1 := rfl
@[simp] theorem toPhase_hostArg0 (p : Phase) : (toPhase p s).hostArg0 = s.hostArg0 := rfl
@[simp] theorem toPhase_hostArg1 (p : Phase) : (toPhase p s).hostArg1 = s.hostArg1 := rfl
@[simp] theorem toPhase_consumed (p : Phase) : (toPhase p s).consumed = s.consumed := rfl
@[simp] theorem toPhase_inbound (p : Phase) : (toPhase p s).inbound = s.inbound := rfl
@[simp] theorem toPhase_skip (p : Phase) : (toPhase p s).skip = s.skip := rfl
@[simp] theorem toPhase_outbound (p : Phase) : (toPhase p s).outbound = s.outbound := rfl
@[simp] theorem toPhase_answers (p : Phase) : (toPhase p s).answers = s.answers := rfl
@[simp] theorem toPhase_program (p : Phase) : (toPhase p s).program = s.program := rfl
@[simp] theorem toPhase_wire (p : Phase) : (toPhase p s).wire = s.wire := rfl
@[simp] theorem toPhase_turns (p : Phase) : (toPhase p s).turns = s.turns := rfl
@[simp] theorem toPhase_draws (p : Phase) : (toPhase p s).draws = s.draws := rfl

/-! ### `clearShifts` -/

@[simp] theorem clearShifts_cfg : (clearShifts s).cfg = s.cfg := rfl
@[simp] theorem clearShifts_opsel : (clearShifts s).opsel = s.opsel := rfl
@[simp] theorem clearShifts_code0 : (clearShifts s).code0 = s.code0 := rfl
@[simp] theorem clearShifts_code1 : (clearShifts s).code1 = s.code1 := rfl
@[simp] theorem clearShifts_arg0 : (clearShifts s).arg0 = s.arg0 := rfl
@[simp] theorem clearShifts_arg1 : (clearShifts s).arg1 = s.arg1 := rfl
@[simp] theorem clearShifts_phase : (clearShifts s).phase = s.phase := rfl
@[simp] theorem clearShifts_buf : (clearShifts s).buf = s.buf := rfl
@[simp] theorem clearShifts_shifts : (clearShifts s).shifts = 0 := rfl
@[simp] theorem clearShifts_status : (clearShifts s).status = s.status := rfl
@[simp] theorem clearShifts_done : (clearShifts s).done = s.done := rfl
@[simp] theorem clearShifts_res : (clearShifts s).res = s.res := rfl
@[simp] theorem clearShifts_resLen : (clearShifts s).resLen = s.resLen := rfl
@[simp] theorem clearShifts_hostCode0 : (clearShifts s).hostCode0 = s.hostCode0 := rfl
@[simp] theorem clearShifts_hostCode1 : (clearShifts s).hostCode1 = s.hostCode1 := rfl
@[simp] theorem clearShifts_hostArg0 : (clearShifts s).hostArg0 = s.hostArg0 := rfl
@[simp] theorem clearShifts_hostArg1 : (clearShifts s).hostArg1 = s.hostArg1 := rfl
@[simp] theorem clearShifts_consumed : (clearShifts s).consumed = s.consumed := rfl
@[simp] theorem clearShifts_inbound : (clearShifts s).inbound = s.inbound := rfl
@[simp] theorem clearShifts_skip : (clearShifts s).skip = s.skip := rfl
@[simp] theorem clearShifts_outbound : (clearShifts s).outbound = s.outbound := rfl
@[simp] theorem clearShifts_answers : (clearShifts s).answers = s.answers := rfl
@[simp] theorem clearShifts_program : (clearShifts s).program = s.program := rfl
@[simp] theorem clearShifts_wire : (clearShifts s).wire = s.wire := rfl
@[simp] theorem clearShifts_turns : (clearShifts s).turns = s.turns := rfl
@[simp] theorem clearShifts_draws : (clearShifts s).draws = s.draws := rfl

/-! ### `setBuf` -/

@[simp] theorem setBuf_cfg (bs : List Byte) : (setBuf bs s).cfg = s.cfg := rfl
@[simp] theorem setBuf_opsel (bs : List Byte) : (setBuf bs s).opsel = s.opsel := rfl
@[simp] theorem setBuf_code0 (bs : List Byte) : (setBuf bs s).code0 = s.code0 := rfl
@[simp] theorem setBuf_code1 (bs : List Byte) : (setBuf bs s).code1 = s.code1 := rfl
@[simp] theorem setBuf_arg0 (bs : List Byte) : (setBuf bs s).arg0 = s.arg0 := rfl
@[simp] theorem setBuf_arg1 (bs : List Byte) : (setBuf bs s).arg1 = s.arg1 := rfl
@[simp] theorem setBuf_phase (bs : List Byte) : (setBuf bs s).phase = s.phase := rfl
@[simp] theorem setBuf_buf (bs : List Byte) : (setBuf bs s).buf = bs ++ s.buf.drop bs.length := rfl
@[simp] theorem setBuf_shifts (bs : List Byte) : (setBuf bs s).shifts = s.shifts := rfl
@[simp] theorem setBuf_status (bs : List Byte) : (setBuf bs s).status = s.status := rfl
@[simp] theorem setBuf_done (bs : List Byte) : (setBuf bs s).done = s.done := rfl
@[simp] theorem setBuf_res (bs : List Byte) : (setBuf bs s).res = s.res := rfl
@[simp] theorem setBuf_resLen (bs : List Byte) : (setBuf bs s).resLen = s.resLen := rfl
@[simp] theorem setBuf_hostCode0 (bs : List Byte) : (setBuf bs s).hostCode0 = s.hostCode0 := rfl
@[simp] theorem setBuf_hostCode1 (bs : List Byte) : (setBuf bs s).hostCode1 = s.hostCode1 := rfl
@[simp] theorem setBuf_hostArg0 (bs : List Byte) : (setBuf bs s).hostArg0 = s.hostArg0 := rfl
@[simp] theorem setBuf_hostArg1 (bs : List Byte) : (setBuf bs s).hostArg1 = s.hostArg1 := rfl
@[simp] theorem setBuf_consumed (bs : List Byte) : (setBuf bs s).consumed = s.consumed := rfl
@[simp] theorem setBuf_inbound (bs : List Byte) : (setBuf bs s).inbound = s.inbound := rfl
@[simp] theorem setBuf_skip (bs : List Byte) : (setBuf bs s).skip = s.skip := rfl
@[simp] theorem setBuf_outbound (bs : List Byte) : (setBuf bs s).outbound = s.outbound := rfl
@[simp] theorem setBuf_answers (bs : List Byte) : (setBuf bs s).answers = s.answers := rfl
@[simp] theorem setBuf_program (bs : List Byte) : (setBuf bs s).program = s.program := rfl
@[simp] theorem setBuf_wire (bs : List Byte) : (setBuf bs s).wire = s.wire := rfl
@[simp] theorem setBuf_turns (bs : List Byte) : (setBuf bs s).turns = s.turns := rfl
@[simp] theorem setBuf_draws (bs : List Byte) : (setBuf bs s).draws = s.draws := rfl

/-! ### `shiftIn` -/

@[simp] theorem shiftIn_cfg (x : Byte) : (shiftIn x s).cfg = s.cfg := rfl
@[simp] theorem shiftIn_opsel (x : Byte) : (shiftIn x s).opsel = s.opsel := rfl
@[simp] theorem shiftIn_code0 (x : Byte) : (shiftIn x s).code0 = s.code0 := rfl
@[simp] theorem shiftIn_code1 (x : Byte) : (shiftIn x s).code1 = s.code1 := rfl
@[simp] theorem shiftIn_arg0 (x : Byte) : (shiftIn x s).arg0 = s.arg0 := rfl
@[simp] theorem shiftIn_arg1 (x : Byte) : (shiftIn x s).arg1 = s.arg1 := rfl
@[simp] theorem shiftIn_phase (x : Byte) : (shiftIn x s).phase = .check := rfl
@[simp] theorem shiftIn_buf (x : Byte) : (shiftIn x s).buf =
    ((window s).drop 1 ++ [x]) ++ s.buf.drop (recordLen s.cfg) := rfl
@[simp] theorem shiftIn_shifts (x : Byte) : (shiftIn x s).shifts = s.shifts + 1 := rfl
@[simp] theorem shiftIn_status (x : Byte) : (shiftIn x s).status = s.status := rfl
@[simp] theorem shiftIn_done (x : Byte) : (shiftIn x s).done = s.done := rfl
@[simp] theorem shiftIn_res (x : Byte) : (shiftIn x s).res = s.res := rfl
@[simp] theorem shiftIn_resLen (x : Byte) : (shiftIn x s).resLen = s.resLen := rfl
@[simp] theorem shiftIn_hostCode0 (x : Byte) : (shiftIn x s).hostCode0 = s.hostCode0 := rfl
@[simp] theorem shiftIn_hostCode1 (x : Byte) : (shiftIn x s).hostCode1 = s.hostCode1 := rfl
@[simp] theorem shiftIn_hostArg0 (x : Byte) : (shiftIn x s).hostArg0 = s.hostArg0 := rfl
@[simp] theorem shiftIn_hostArg1 (x : Byte) : (shiftIn x s).hostArg1 = s.hostArg1 := rfl
@[simp] theorem shiftIn_consumed (x : Byte) : (shiftIn x s).consumed = s.consumed := rfl
@[simp] theorem shiftIn_inbound (x : Byte) : (shiftIn x s).inbound = s.inbound := rfl
@[simp] theorem shiftIn_skip (x : Byte) : (shiftIn x s).skip = s.skip := rfl
@[simp] theorem shiftIn_outbound (x : Byte) : (shiftIn x s).outbound = s.outbound := rfl
@[simp] theorem shiftIn_answers (x : Byte) : (shiftIn x s).answers = s.answers := rfl
@[simp] theorem shiftIn_program (x : Byte) : (shiftIn x s).program = s.program := rfl
@[simp] theorem shiftIn_wire (x : Byte) : (shiftIn x s).wire = s.wire := rfl
@[simp] theorem shiftIn_turns (x : Byte) : (shiftIn x s).turns = s.turns := rfl
@[simp] theorem shiftIn_draws (x : Byte) : (shiftIn x s).draws = s.draws := rfl

/-! ### `failedRead` -/

@[simp] theorem failedRead_cfg (n : Nat) : (failedRead n s).cfg = s.cfg := rfl
@[simp] theorem failedRead_opsel (n : Nat) : (failedRead n s).opsel = s.opsel := rfl
@[simp] theorem failedRead_code0 (n : Nat) : (failedRead n s).code0 = s.code0 := rfl
@[simp] theorem failedRead_code1 (n : Nat) : (failedRead n s).code1 = s.code1 := rfl
@[simp] theorem failedRead_arg0 (n : Nat) : (failedRead n s).arg0 = s.arg0 := rfl
@[simp] theorem failedRead_arg1 (n : Nat) : (failedRead n s).arg1 = s.arg1 := rfl
@[simp] theorem failedRead_phase (n : Nat) : (failedRead n s).phase = s.phase := rfl
@[simp] theorem failedRead_buf (n : Nat) : (failedRead n s).buf = s.buf := rfl
@[simp] theorem failedRead_shifts (n : Nat) : (failedRead n s).shifts = s.shifts := rfl
@[simp] theorem failedRead_status (n : Nat) : (failedRead n s).status = s.status := rfl
@[simp] theorem failedRead_done (n : Nat) : (failedRead n s).done = s.done := rfl
@[simp] theorem failedRead_res (n : Nat) : (failedRead n s).res = s.res := rfl
@[simp] theorem failedRead_resLen (n : Nat) : (failedRead n s).resLen = s.resLen := rfl
@[simp] theorem failedRead_hostCode0 (n : Nat) : (failedRead n s).hostCode0 = s.hostCode0 := rfl
@[simp] theorem failedRead_hostCode1 (n : Nat) : (failedRead n s).hostCode1 = s.hostCode1 := rfl
@[simp] theorem failedRead_hostArg0 (n : Nat) : (failedRead n s).hostArg0 = s.hostArg0 := rfl
@[simp] theorem failedRead_hostArg1 (n : Nat) : (failedRead n s).hostArg1 = s.hostArg1 := rfl
@[simp] theorem failedRead_consumed (n : Nat) : (failedRead n s).consumed = s.consumed := rfl
@[simp] theorem failedRead_inbound (n : Nat) : (failedRead n s).inbound =
    s.inbound.drop (drawUpTo n s) := rfl
@[simp] theorem failedRead_skip (n : Nat) : (failedRead n s).skip =
    s.skip + (drawUpTo n s - s.inbound.length) := rfl
@[simp] theorem failedRead_outbound (n : Nat) : (failedRead n s).outbound = s.outbound := rfl
@[simp] theorem failedRead_answers (n : Nat) : (failedRead n s).answers = s.answers.tail := rfl
@[simp] theorem failedRead_program (n : Nat) : (failedRead n s).program = s.program := rfl
@[simp] theorem failedRead_wire (n : Nat) : (failedRead n s).wire = s.wire := rfl
@[simp] theorem failedRead_turns (n : Nat) : (failedRead n s).turns = s.turns := rfl
@[simp] theorem failedRead_draws (n : Nat) : (failedRead n s).draws = s.draws + 1 := rfl

/-! ### `failedWrite` -/

@[simp] theorem failedWrite_cfg (pkt : List Byte) : (failedWrite pkt s).cfg = s.cfg := rfl
@[simp] theorem failedWrite_opsel (pkt : List Byte) : (failedWrite pkt s).opsel = s.opsel := rfl
@[simp] theorem failedWrite_code0 (pkt : List Byte) : (failedWrite pkt s).code0 = s.code0 := rfl
@[simp] theorem failedWrite_code1 (pkt : List Byte) : (failedWrite pkt s).code1 = s.code1 := rfl
@[simp] theorem failedWrite_arg0 (pkt : List Byte) : (failedWrite pkt s).arg0 = s.arg0 := rfl
@[simp] theorem failedWrite_arg1 (pkt : List Byte) : (failedWrite pkt s).arg1 = s.arg1 := rfl
@[simp] theorem failedWrite_phase (pkt : List Byte) : (failedWrite pkt s).phase = s.phase := rfl
@[simp] theorem failedWrite_buf (pkt : List Byte) : (failedWrite pkt s).buf = s.buf := rfl
@[simp] theorem failedWrite_shifts (pkt : List Byte) : (failedWrite pkt s).shifts = s.shifts := rfl
@[simp] theorem failedWrite_status (pkt : List Byte) : (failedWrite pkt s).status = s.status := rfl
@[simp] theorem failedWrite_done (pkt : List Byte) : (failedWrite pkt s).done = s.done := rfl
@[simp] theorem failedWrite_res (pkt : List Byte) : (failedWrite pkt s).res = s.res := rfl
@[simp] theorem failedWrite_resLen (pkt : List Byte) : (failedWrite pkt s).resLen = s.resLen := rfl
@[simp] theorem failedWrite_hostCode0 (pkt : List Byte) : (failedWrite pkt s).hostCode0 =
    s.hostCode0 := rfl
@[simp] theorem failedWrite_hostCode1 (pkt : List Byte) : (failedWrite pkt s).hostCode1 =
    s.hostCode1 := rfl
@[simp] theorem failedWrite_hostArg0 (pkt : List Byte) : (failedWrite pkt s).hostArg0 =
    s.hostArg0 := rfl
@[simp] theorem failedWrite_hostArg1 (pkt : List Byte) : (failedWrite pkt s).hostArg1 =
    s.hostArg1 := rfl
@[simp] theorem failedWrite_consumed (pkt : List Byte) : (failedWrite pkt s).consumed =
    s.consumed := rfl
@[simp] theorem failedWrite_inbound (pkt : List Byte) : (failedWrite pkt s).inbound =
    s.inbound := rfl
@[simp] theorem failedWrite_skip (pkt : List Byte) : (failedWrite pkt s).skip = s.skip := rfl
@[simp] theorem failedWrite_outbound (pkt : List Byte) : (failedWrite pkt s).outbound =
    s.outbound ++ pkt.take (drawUpTo pkt.length s) := rfl
@[simp] theorem failedWrite_answers (pkt : List Byte) : (failedWrite pkt s).answers =
    s.answers.tail := rfl
@[simp] theorem failedWrite_program (pkt : List Byte) : (failedWrite pkt s).program =
    s.program := rfl
@[simp] theorem failedWrite_wire (pkt : List Byte) : (failedWrite pkt s).wire = s.wire := rfl
@[simp] theorem failedWrite_turns (pkt : List Byte) : (failedWrite pkt s).turns = s.turns := rfl
@[simp] theorem failedWrite_draws (pkt : List Byte) : (failedWrite pkt s).draws = s.draws + 1 := rfl

/-! ### `takenRead` -/

@[simp] theorem takenRead_cfg (n : Nat) : (takenRead n s).cfg = s.cfg := rfl
@[simp] theorem takenRead_opsel (n : Nat) : (takenRead n s).opsel = s.opsel := rfl
@[simp] theorem takenRead_code0 (n : Nat) : (takenRead n s).code0 = s.code0 := rfl
@[simp] theorem takenRead_code1 (n : Nat) : (takenRead n s).code1 = s.code1 := rfl
@[simp] theorem takenRead_arg0 (n : Nat) : (takenRead n s).arg0 = s.arg0 := rfl
@[simp] theorem takenRead_arg1 (n : Nat) : (takenRead n s).arg1 = s.arg1 := rfl
@[simp] theorem takenRead_phase (n : Nat) : (takenRead n s).phase = s.phase := rfl
@[simp] theorem takenRead_buf (n : Nat) : (takenRead n s).buf = s.buf := rfl
@[simp] theorem takenRead_shifts (n : Nat) : (takenRead n s).shifts = s.shifts := rfl
@[simp] theorem takenRead_status (n : Nat) : (takenRead n s).status = s.status := rfl
@[simp] theorem takenRead_done (n : Nat) : (takenRead n s).done = s.done := rfl
@[simp] theorem takenRead_res (n : Nat) : (takenRead n s).res = s.res := rfl
@[simp] theorem takenRead_resLen (n : Nat) : (takenRead n s).resLen = s.resLen := rfl
@[simp] theorem takenRead_hostCode0 (n : Nat) : (takenRead n s).hostCode0 = s.hostCode0 := rfl
@[simp] theorem takenRead_hostCode1 (n : Nat) : (takenRead n s).hostCode1 = s.hostCode1 := rfl
@[simp] theorem takenRead_hostArg0 (n : Nat) : (takenRead n s).hostArg0 = s.hostArg0 := rfl
@[simp] theorem takenRead_hostArg1 (n : Nat) : (takenRead n s).hostArg1 = s.hostArg1 := rfl
@[simp] theorem takenRead_consumed (n : Nat) : (takenRead n s).consumed = s.consumed + n := rfl
@[simp] theorem takenRead_inbound (n : Nat) : (takenRead n s).inbound = s.inbound.drop n := rfl
@[simp] theorem takenRead_skip (n : Nat) : (takenRead n s).skip = s.skip := rfl
@[simp] theorem takenRead_outbound (n : Nat) : (takenRead n s).outbound = s.outbound := rfl
@[simp] theorem takenRead_answers (n : Nat) : (takenRead n s).answers = s.answers.tail := rfl
@[simp] theorem takenRead_program (n : Nat) : (takenRead n s).program = s.program := rfl
@[simp] theorem takenRead_wire (n : Nat) : (takenRead n s).wire = s.wire := rfl
@[simp] theorem takenRead_turns (n : Nat) : (takenRead n s).turns = s.turns := rfl
@[simp] theorem takenRead_draws (n : Nat) : (takenRead n s).draws = s.draws := rfl

/-! ### `sentWrite` -/

@[simp] theorem sentWrite_cfg (pkt : List Byte) : (sentWrite pkt s).cfg = s.cfg := rfl
@[simp] theorem sentWrite_opsel (pkt : List Byte) : (sentWrite pkt s).opsel = s.opsel := rfl
@[simp] theorem sentWrite_code0 (pkt : List Byte) : (sentWrite pkt s).code0 = s.code0 := rfl
@[simp] theorem sentWrite_code1 (pkt : List Byte) : (sentWrite pkt s).code1 = s.code1 := rfl
@[simp] theorem sentWrite_arg0 (pkt : List Byte) : (sentWrite pkt s).arg0 = s.arg0 := rfl
@[simp] theorem sentWrite_arg1 (pkt : List Byte) : (sentWrite pkt s).arg1 = s.arg1 := rfl
@[simp] theorem sentWrite_phase (pkt : List Byte) : (sentWrite pkt s).phase = s.phase := rfl
@[simp] theorem sentWrite_buf (pkt : List Byte) : (sentWrite pkt s).buf = s.buf := rfl
@[simp] theorem sentWrite_shifts (pkt : List Byte) : (sentWrite pkt s).shifts = s.shifts := rfl
@[simp] theorem sentWrite_status (pkt : List Byte) : (sentWrite pkt s).status = s.status := rfl
@[simp] theorem sentWrite_done (pkt : List Byte) : (sentWrite pkt s).done = s.done := rfl
@[simp] theorem sentWrite_res (pkt : List Byte) : (sentWrite pkt s).res = s.res := rfl
@[simp] theorem sentWrite_resLen (pkt : List Byte) : (sentWrite pkt s).resLen = s.resLen := rfl
@[simp] theorem sentWrite_hostCode0 (pkt : List Byte) : (sentWrite pkt s).hostCode0 =
    s.hostCode0 := rfl
@[simp] theorem sentWrite_hostCode1 (pkt : List Byte) : (sentWrite pkt s).hostCode1 =
    s.hostCode1 := rfl
@[simp] theorem sentWrite_hostArg0 (pkt : List Byte) : (sentWrite pkt s).hostArg0 =
    s.hostArg0 := rfl
@[simp] theorem sentWrite_hostArg1 (pkt : List Byte) : (sentWrite pkt s).hostArg1 =
    s.hostArg1 := rfl
@[simp] theorem sentWrite_consumed (pkt : List Byte) : (sentWrite pkt s).consumed =
    s.consumed := rfl
@[simp] theorem sentWrite_inbound (pkt : List Byte) : (sentWrite pkt s).inbound = s.inbound := rfl
@[simp] theorem sentWrite_skip (pkt : List Byte) : (sentWrite pkt s).skip = s.skip := rfl
@[simp] theorem sentWrite_outbound (pkt : List Byte) : (sentWrite pkt s).outbound =
    s.outbound ++ pkt := rfl
@[simp] theorem sentWrite_answers (pkt : List Byte) : (sentWrite pkt s).answers =
    s.answers.tail := rfl
@[simp] theorem sentWrite_program (pkt : List Byte) : (sentWrite pkt s).program = s.program := rfl
@[simp] theorem sentWrite_wire (pkt : List Byte) : (sentWrite pkt s).wire = s.wire := rfl
@[simp] theorem sentWrite_turns (pkt : List Byte) : (sentWrite pkt s).turns = s.turns := rfl
@[simp] theorem sentWrite_draws (pkt : List Byte) : (sentWrite pkt s).draws = s.draws := rfl

/-! ### `receive` -/

@[simp] theorem receive_cfg (bs : List Byte) : (receive bs s).cfg = s.cfg := rfl
@[simp] theorem receive_opsel (bs : List Byte) : (receive bs s).opsel = s.opsel := rfl
@[simp] theorem receive_code0 (bs : List Byte) : (receive bs s).code0 = s.code0 := rfl
@[simp] theorem receive_code1 (bs : List Byte) : (receive bs s).code1 = s.code1 := rfl
@[simp] theorem receive_arg0 (bs : List Byte) : (receive bs s).arg0 = s.arg0 := rfl
@[simp] theorem receive_arg1 (bs : List Byte) : (receive bs s).arg1 = s.arg1 := rfl
@[simp] theorem receive_phase (bs : List Byte) : (receive bs s).phase = s.phase := rfl
@[simp] theorem receive_buf (bs : List Byte) : (receive bs s).buf = s.buf := rfl
@[simp] theorem receive_shifts (bs : List Byte) : (receive bs s).shifts = s.shifts := rfl
@[simp] theorem receive_status (bs : List Byte) : (receive bs s).status = s.status := rfl
@[simp] theorem receive_done (bs : List Byte) : (receive bs s).done = s.done := rfl
@[simp] theorem receive_res (bs : List Byte) : (receive bs s).res = s.res := rfl
@[simp] theorem receive_resLen (bs : List Byte) : (receive bs s).resLen = s.resLen := rfl
@[simp] theorem receive_hostCode0 (bs : List Byte) : (receive bs s).hostCode0 = s.hostCode0 := rfl
@[simp] theorem receive_hostCode1 (bs : List Byte) : (receive bs s).hostCode1 = s.hostCode1 := rfl
@[simp] theorem receive_hostArg0 (bs : List Byte) : (receive bs s).hostArg0 = s.hostArg0 := rfl
@[simp] theorem receive_hostArg1 (bs : List Byte) : (receive bs s).hostArg1 = s.hostArg1 := rfl
@[simp] theorem receive_consumed (bs : List Byte) : (receive bs s).consumed = s.consumed := rfl
@[simp] theorem receive_inbound (bs : List Byte) : (receive bs s).inbound =
    s.inbound ++ bs.drop s.skip := rfl
@[simp] theorem receive_skip (bs : List Byte) : (receive bs s).skip = s.skip - bs.length := rfl
@[simp] theorem receive_outbound (bs : List Byte) : (receive bs s).outbound = s.outbound := rfl
@[simp] theorem receive_answers (bs : List Byte) : (receive bs s).answers = s.answers := rfl
@[simp] theorem receive_program (bs : List Byte) : (receive bs s).program = s.program := rfl
@[simp] theorem receive_wire (bs : List Byte) : (receive bs s).wire = s.wire := rfl
@[simp] theorem receive_turns (bs : List Byte) : (receive bs s).turns = s.turns := rfl
@[simp] theorem receive_draws (bs : List Byte) : (receive bs s).draws = s.draws := rfl

/-! ### `settle` -/

@[simp] theorem settle_cfg (a : Answer) : (settle a s).cfg = s.cfg := rfl
@[simp] theorem settle_opsel (a : Answer) : (settle a s).opsel = s.opsel := rfl
@[simp] theorem settle_code0 (a : Answer) : (settle a s).code0 = s.code0 := rfl
@[simp] theorem settle_code1 (a : Answer) : (settle a s).code1 = s.code1 := rfl
@[simp] theorem settle_arg0 (a : Answer) : (settle a s).arg0 = s.arg0 := rfl
@[simp] theorem settle_arg1 (a : Answer) : (settle a s).arg1 = s.arg1 := rfl
@[simp] theorem settle_phase (a : Answer) : (settle a s).phase = s.phase := rfl
@[simp] theorem settle_buf (a : Answer) : (settle a s).buf = s.buf := rfl
@[simp] theorem settle_shifts (a : Answer) : (settle a s).shifts = s.shifts := rfl
@[simp] theorem settle_status (a : Answer) : (settle a s).status = s.status := rfl
@[simp] theorem settle_done (a : Answer) : (settle a s).done = s.done := rfl
@[simp] theorem settle_res (a : Answer) : (settle a s).res = s.res := rfl
@[simp] theorem settle_resLen (a : Answer) : (settle a s).resLen = s.resLen := rfl
@[simp] theorem settle_hostCode0 (a : Answer) : (settle a s).hostCode0 = s.hostCode0 := rfl
@[simp] theorem settle_hostCode1 (a : Answer) : (settle a s).hostCode1 = s.hostCode1 := rfl
@[simp] theorem settle_hostArg0 (a : Answer) : (settle a s).hostArg0 = s.hostArg0 := rfl
@[simp] theorem settle_hostArg1 (a : Answer) : (settle a s).hostArg1 = s.hostArg1 := rfl
@[simp] theorem settle_consumed (a : Answer) : (settle a s).consumed = s.consumed := rfl
@[simp] theorem settle_inbound (a : Answer) : (settle a s).inbound = s.inbound := rfl
@[simp] theorem settle_skip (a : Answer) : (settle a s).skip = s.skip := rfl
@[simp] theorem settle_outbound (a : Answer) : (settle a s).outbound = s.outbound := rfl
@[simp] theorem settle_answers (a : Answer) : (settle a s).answers = s.answers ++ [a] := rfl
@[simp] theorem settle_program (a : Answer) : (settle a s).program = s.program := rfl
@[simp] theorem settle_wire (a : Answer) : (settle a s).wire = s.wire := rfl
@[simp] theorem settle_turns (a : Answer) : (settle a s).turns = s.turns := rfl
@[simp] theorem settle_draws (a : Answer) : (settle a s).draws = s.draws := rfl

/-! ### `finish` -/

@[simp] theorem finish_cfg (st : Status) : (finish st s).cfg = s.cfg := rfl
@[simp] theorem finish_opsel (st : Status) : (finish st s).opsel = s.opsel := rfl
@[simp] theorem finish_code0 (st : Status) : (finish st s).code0 = s.code0 := rfl
@[simp] theorem finish_code1 (st : Status) : (finish st s).code1 = s.code1 := rfl
@[simp] theorem finish_arg0 (st : Status) : (finish st s).arg0 = s.arg0 := rfl
@[simp] theorem finish_arg1 (st : Status) : (finish st s).arg1 = s.arg1 := rfl
@[simp] theorem finish_phase (st : Status) : (finish st s).phase = .idle := rfl
@[simp] theorem finish_buf (st : Status) : (finish st s).buf = s.buf := rfl
@[simp] theorem finish_shifts (st : Status) : (finish st s).shifts = s.shifts := rfl
@[simp] theorem finish_status (st : Status) : (finish st s).status = st := rfl
@[simp] theorem finish_done (st : Status) : (finish st s).done = true := rfl
@[simp] theorem finish_res (st : Status) : (finish st s).res =
    if st = .ok then (readLen s.cfg s.opsel).map (fun n => s.buf.take n) else none := rfl
@[simp] theorem finish_resLen (st : Status) : (finish st s).resLen =
    if st = .ok then (readLen s.cfg s.opsel).getD 0 else 0 := rfl
@[simp] theorem finish_hostCode0 (st : Status) : (finish st s).hostCode0 = s.hostCode0 := rfl
@[simp] theorem finish_hostCode1 (st : Status) : (finish st s).hostCode1 = s.hostCode1 := rfl
@[simp] theorem finish_hostArg0 (st : Status) : (finish st s).hostArg0 = s.hostArg0 := rfl
@[simp] theorem finish_hostArg1 (st : Status) : (finish st s).hostArg1 = s.hostArg1 := rfl
@[simp] theorem finish_consumed (st : Status) : (finish st s).consumed = s.consumed := rfl
@[simp] theorem finish_inbound (st : Status) : (finish st s).inbound = s.inbound := rfl
@[simp] theorem finish_skip (st : Status) : (finish st s).skip = s.skip := rfl
@[simp] theorem finish_outbound (st : Status) : (finish st s).outbound = s.outbound := rfl
@[simp] theorem finish_answers (st : Status) : (finish st s).answers = s.answers := rfl
@[simp] theorem finish_program (st : Status) : (finish st s).program = s.program := rfl
@[simp] theorem finish_wire (st : Status) : (finish st s).wire = s.wire := rfl
@[simp] theorem finish_turns (st : Status) : (finish st s).turns = s.turns := rfl
@[simp] theorem finish_draws (st : Status) : (finish st s).draws = s.draws := rfl

/-! ### `latch` -/

@[simp] theorem latch_cfg (op : OpSel) (x : Operands) : (latch op x s).cfg = s.cfg := rfl
@[simp] theorem latch_opsel (op : OpSel) (x : Operands) : (latch op x s).opsel = op := rfl
@[simp] theorem latch_code0 (op : OpSel) (x : Operands) : (latch op x s).code0 =
    operandCode0 x s := rfl
@[simp] theorem latch_code1 (op : OpSel) (x : Operands) : (latch op x s).code1 =
    operandCode1 x s := rfl
@[simp] theorem latch_arg0 (op : OpSel) (x : Operands) : (latch op x s).arg0 =
    operandArg0 x s := rfl
@[simp] theorem latch_arg1 (op : OpSel) (x : Operands) : (latch op x s).arg1 =
    operandArg1 x s := rfl
@[simp] theorem latch_phase (op : OpSel) (x : Operands) : (latch op x s).phase =
    firstPhase op := rfl
@[simp] theorem latch_buf (op : OpSel) (x : Operands) : (latch op x s).buf = s.buf := rfl
@[simp] theorem latch_shifts (op : OpSel) (x : Operands) : (latch op x s).shifts = 0 := rfl
@[simp] theorem latch_status (op : OpSel) (x : Operands) : (latch op x s).status = .ok := rfl
@[simp] theorem latch_done (op : OpSel) (x : Operands) : (latch op x s).done = false := rfl
@[simp] theorem latch_res (op : OpSel) (x : Operands) : (latch op x s).res = none := rfl
@[simp] theorem latch_resLen (op : OpSel) (x : Operands) : (latch op x s).resLen = 0 := rfl
@[simp] theorem latch_hostCode0 (op : OpSel) (x : Operands) : (latch op x s).hostCode0 =
    operandCode0 x s := rfl
@[simp] theorem latch_hostCode1 (op : OpSel) (x : Operands) : (latch op x s).hostCode1 =
    operandCode1 x s := rfl
@[simp] theorem latch_hostArg0 (op : OpSel) (x : Operands) : (latch op x s).hostArg0 =
    operandArg0 x s := rfl
@[simp] theorem latch_hostArg1 (op : OpSel) (x : Operands) : (latch op x s).hostArg1 =
    operandArg1 x s := rfl
@[simp] theorem latch_consumed (op : OpSel) (x : Operands) : (latch op x s).consumed = 0 := rfl
@[simp] theorem latch_inbound (op : OpSel) (x : Operands) : (latch op x s).inbound =
    s.inbound := rfl
@[simp] theorem latch_skip (op : OpSel) (x : Operands) : (latch op x s).skip = s.skip := rfl
@[simp] theorem latch_outbound (op : OpSel) (x : Operands) : (latch op x s).outbound =
    s.outbound := rfl
@[simp] theorem latch_answers (op : OpSel) (x : Operands) : (latch op x s).answers =
    s.answers := rfl
@[simp] theorem latch_program (op : OpSel) (x : Operands) : (latch op x s).program =
    s.program := rfl
@[simp] theorem latch_wire (op : OpSel) (x : Operands) : (latch op x s).wire = s.wire := rfl
@[simp] theorem latch_turns (op : OpSel) (x : Operands) : (latch op x s).turns = s.turns := rfl
@[simp] theorem latch_draws (op : OpSel) (x : Operands) : (latch op x s).draws = s.draws := rfl

/-! ### `selectCode` -/

@[simp] theorem selectCode_cfg (c0 c1 : Byte) : (selectCode c0 c1 s).cfg = s.cfg := rfl
@[simp] theorem selectCode_opsel (c0 c1 : Byte) : (selectCode c0 c1 s).opsel = s.opsel := rfl
@[simp] theorem selectCode_code0 (c0 c1 : Byte) : (selectCode c0 c1 s).code0 = s.code0 := rfl
@[simp] theorem selectCode_code1 (c0 c1 : Byte) : (selectCode c0 c1 s).code1 = s.code1 := rfl
@[simp] theorem selectCode_arg0 (c0 c1 : Byte) : (selectCode c0 c1 s).arg0 = s.arg0 := rfl
@[simp] theorem selectCode_arg1 (c0 c1 : Byte) : (selectCode c0 c1 s).arg1 = s.arg1 := rfl
@[simp] theorem selectCode_phase (c0 c1 : Byte) : (selectCode c0 c1 s).phase = s.phase := rfl
@[simp] theorem selectCode_buf (c0 c1 : Byte) : (selectCode c0 c1 s).buf = s.buf := rfl
@[simp] theorem selectCode_shifts (c0 c1 : Byte) : (selectCode c0 c1 s).shifts = s.shifts := rfl
@[simp] theorem selectCode_status (c0 c1 : Byte) : (selectCode c0 c1 s).status = s.status := rfl
@[simp] theorem selectCode_done (c0 c1 : Byte) : (selectCode c0 c1 s).done = s.done := rfl
@[simp] theorem selectCode_res (c0 c1 : Byte) : (selectCode c0 c1 s).res = s.res := rfl
@[simp] theorem selectCode_resLen (c0 c1 : Byte) : (selectCode c0 c1 s).resLen = s.resLen := rfl
@[simp] theorem selectCode_hostCode0 (c0 c1 : Byte) : (selectCode c0 c1 s).hostCode0 = c0 := rfl
@[simp] theorem selectCode_hostCode1 (c0 c1 : Byte) : (selectCode c0 c1 s).hostCode1 = c1 := rfl
@[simp] theorem selectCode_hostArg0 (c0 c1 : Byte) : (selectCode c0 c1 s).hostArg0 =
    s.hostArg0 := rfl
@[simp] theorem selectCode_hostArg1 (c0 c1 : Byte) : (selectCode c0 c1 s).hostArg1 =
    s.hostArg1 := rfl
@[simp] theorem selectCode_consumed (c0 c1 : Byte) : (selectCode c0 c1 s).consumed =
    s.consumed := rfl
@[simp] theorem selectCode_inbound (c0 c1 : Byte) : (selectCode c0 c1 s).inbound = s.inbound := rfl
@[simp] theorem selectCode_skip (c0 c1 : Byte) : (selectCode c0 c1 s).skip = s.skip := rfl
@[simp] theorem selectCode_outbound (c0 c1 : Byte) : (selectCode c0 c1 s).outbound =
    s.outbound := rfl
@[simp] theorem selectCode_answers (c0 c1 : Byte) : (selectCode c0 c1 s).answers = s.answers := rfl
@[simp] theorem selectCode_program (c0 c1 : Byte) : (selectCode c0 c1 s).program = s.program := rfl
@[simp] theorem selectCode_wire (c0 c1 : Byte) : (selectCode c0 c1 s).wire = s.wire := rfl
@[simp] theorem selectCode_turns (c0 c1 : Byte) : (selectCode c0 c1 s).turns = s.turns := rfl
@[simp] theorem selectCode_draws (c0 c1 : Byte) : (selectCode c0 c1 s).draws = s.draws := rfl

/-! ### `clearRegisters` -/

@[simp] theorem clearRegisters_cfg : (clearRegisters s).cfg = s.cfg := rfl
@[simp] theorem clearRegisters_opsel : (clearRegisters s).opsel = .reserved := rfl
@[simp] theorem clearRegisters_code0 : (clearRegisters s).code0 = 0#8 := rfl
@[simp] theorem clearRegisters_code1 : (clearRegisters s).code1 = 0#8 := rfl
@[simp] theorem clearRegisters_arg0 : (clearRegisters s).arg0 = 0#8 := rfl
@[simp] theorem clearRegisters_arg1 : (clearRegisters s).arg1 = 0#8 := rfl
@[simp] theorem clearRegisters_phase : (clearRegisters s).phase = .idle := rfl
@[simp] theorem clearRegisters_buf : (clearRegisters s).buf =
    List.replicate (bufLen s.cfg) 0#8 := rfl
@[simp] theorem clearRegisters_shifts : (clearRegisters s).shifts = 0 := rfl
@[simp] theorem clearRegisters_status : (clearRegisters s).status = .ok := rfl
@[simp] theorem clearRegisters_done : (clearRegisters s).done = false := rfl
@[simp] theorem clearRegisters_res : (clearRegisters s).res = none := rfl
@[simp] theorem clearRegisters_resLen : (clearRegisters s).resLen = 0 := rfl
@[simp] theorem clearRegisters_hostCode0 : (clearRegisters s).hostCode0 = s.hostCode0 := rfl
@[simp] theorem clearRegisters_hostCode1 : (clearRegisters s).hostCode1 = s.hostCode1 := rfl
@[simp] theorem clearRegisters_hostArg0 : (clearRegisters s).hostArg0 = s.hostArg0 := rfl
@[simp] theorem clearRegisters_hostArg1 : (clearRegisters s).hostArg1 = s.hostArg1 := rfl
@[simp] theorem clearRegisters_consumed : (clearRegisters s).consumed = s.consumed := rfl
@[simp] theorem clearRegisters_inbound : (clearRegisters s).inbound = s.inbound := rfl
@[simp] theorem clearRegisters_skip : (clearRegisters s).skip = s.skip := rfl
@[simp] theorem clearRegisters_outbound : (clearRegisters s).outbound = s.outbound := rfl
@[simp] theorem clearRegisters_answers : (clearRegisters s).answers = s.answers := rfl
@[simp] theorem clearRegisters_program : (clearRegisters s).program = s.program := rfl
@[simp] theorem clearRegisters_wire : (clearRegisters s).wire = s.wire := rfl
@[simp] theorem clearRegisters_turns : (clearRegisters s).turns = s.turns := rfl
@[simp] theorem clearRegisters_draws : (clearRegisters s).draws = s.draws := rfl

/-! ### `passTurn` -/

@[simp] theorem passTurn_cfg : (passTurn s).cfg = s.cfg := rfl
@[simp] theorem passTurn_opsel : (passTurn s).opsel = s.opsel := rfl
@[simp] theorem passTurn_code0 : (passTurn s).code0 = s.code0 := rfl
@[simp] theorem passTurn_code1 : (passTurn s).code1 = s.code1 := rfl
@[simp] theorem passTurn_arg0 : (passTurn s).arg0 = s.arg0 := rfl
@[simp] theorem passTurn_arg1 : (passTurn s).arg1 = s.arg1 := rfl
@[simp] theorem passTurn_phase : (passTurn s).phase = s.phase := rfl
@[simp] theorem passTurn_buf : (passTurn s).buf = s.buf := rfl
@[simp] theorem passTurn_shifts : (passTurn s).shifts = s.shifts := rfl
@[simp] theorem passTurn_status : (passTurn s).status = s.status := rfl
@[simp] theorem passTurn_done : (passTurn s).done = s.done := rfl
@[simp] theorem passTurn_res : (passTurn s).res = s.res := rfl
@[simp] theorem passTurn_resLen : (passTurn s).resLen = s.resLen := rfl
@[simp] theorem passTurn_hostCode0 : (passTurn s).hostCode0 = s.hostCode0 := rfl
@[simp] theorem passTurn_hostCode1 : (passTurn s).hostCode1 = s.hostCode1 := rfl
@[simp] theorem passTurn_hostArg0 : (passTurn s).hostArg0 = s.hostArg0 := rfl
@[simp] theorem passTurn_hostArg1 : (passTurn s).hostArg1 = s.hostArg1 := rfl
@[simp] theorem passTurn_consumed : (passTurn s).consumed = s.consumed := rfl
@[simp] theorem passTurn_inbound : (passTurn s).inbound = s.inbound := rfl
@[simp] theorem passTurn_skip : (passTurn s).skip = s.skip := rfl
@[simp] theorem passTurn_outbound : (passTurn s).outbound = s.outbound := rfl
@[simp] theorem passTurn_answers : (passTurn s).answers = s.answers := rfl
@[simp] theorem passTurn_program : (passTurn s).program = s.program := rfl
@[simp] theorem passTurn_wire : (passTurn s).wire = s.wire := rfl
@[simp] theorem passTurn_turns : (passTurn s).turns = s.turns.tail := rfl
@[simp] theorem passTurn_draws : (passTurn s).draws = s.draws := rfl

/-! ### `supply` -/

@[simp] theorem supply_cfg (more : List Answer) (bytes : List Byte) : (supply more bytes s).cfg =
    s.cfg := rfl
@[simp] theorem supply_opsel (more : List Answer) (bytes : List Byte) : (supply more bytes s).opsel =
    s.opsel := rfl
@[simp] theorem supply_code0 (more : List Answer) (bytes : List Byte) : (supply more bytes s).code0 =
    s.code0 := rfl
@[simp] theorem supply_code1 (more : List Answer) (bytes : List Byte) : (supply more bytes s).code1 =
    s.code1 := rfl
@[simp] theorem supply_arg0 (more : List Answer) (bytes : List Byte) : (supply more bytes s).arg0 =
    s.arg0 := rfl
@[simp] theorem supply_arg1 (more : List Answer) (bytes : List Byte) : (supply more bytes s).arg1 =
    s.arg1 := rfl
@[simp] theorem supply_phase (more : List Answer) (bytes : List Byte) : (supply more bytes s).phase =
    s.phase := rfl
@[simp] theorem supply_buf (more : List Answer) (bytes : List Byte) : (supply more bytes s).buf =
    s.buf := rfl
@[simp] theorem supply_shifts (more : List Answer) (bytes : List Byte) : (supply more bytes s).shifts =
    s.shifts := rfl
@[simp] theorem supply_status (more : List Answer) (bytes : List Byte) : (supply more bytes s).status =
    s.status := rfl
@[simp] theorem supply_done (more : List Answer) (bytes : List Byte) : (supply more bytes s).done =
    s.done := rfl
@[simp] theorem supply_res (more : List Answer) (bytes : List Byte) : (supply more bytes s).res =
    s.res := rfl
@[simp] theorem supply_resLen (more : List Answer) (bytes : List Byte) : (supply more bytes s).resLen =
    s.resLen := rfl
@[simp] theorem supply_hostCode0 (more : List Answer) (bytes : List Byte) : (supply more bytes s).hostCode0 =
    s.hostCode0 := rfl
@[simp] theorem supply_hostCode1 (more : List Answer) (bytes : List Byte) : (supply more bytes s).hostCode1 =
    s.hostCode1 := rfl
@[simp] theorem supply_hostArg0 (more : List Answer) (bytes : List Byte) : (supply more bytes s).hostArg0 =
    s.hostArg0 := rfl
@[simp] theorem supply_hostArg1 (more : List Answer) (bytes : List Byte) : (supply more bytes s).hostArg1 =
    s.hostArg1 := rfl
@[simp] theorem supply_consumed (more : List Answer) (bytes : List Byte) : (supply more bytes s).consumed =
    s.consumed := rfl
@[simp] theorem supply_inbound (more : List Answer) (bytes : List Byte) : (supply more bytes s).inbound =
    s.inbound ++ bytes.drop s.skip := rfl
@[simp] theorem supply_skip (more : List Answer) (bytes : List Byte) : (supply more bytes s).skip =
    s.skip - bytes.length := rfl
@[simp] theorem supply_outbound (more : List Answer) (bytes : List Byte) : (supply more bytes s).outbound =
    s.outbound := rfl
@[simp] theorem supply_answers (more : List Answer) (bytes : List Byte) : (supply more bytes s).answers =
    s.answers ++ more := rfl
@[simp] theorem supply_program (more : List Answer) (bytes : List Byte) : (supply more bytes s).program =
    s.program := rfl
@[simp] theorem supply_wire (more : List Answer) (bytes : List Byte) : (supply more bytes s).wire =
    s.wire := rfl
@[simp] theorem supply_turns (more : List Answer) (bytes : List Byte) : (supply more bytes s).turns =
    s.turns := rfl
@[simp] theorem supply_draws (more : List Answer) (bytes : List Byte) : (supply more bytes s).draws =
    s.draws := rfl

end Sys2Proof.Machine
end

