-- ==== Sys2Proof/Laws/Ops.lean ====
section
/-! SUPPORT. What each shared operation can do, said once: the transport's transactions, START, and
the framer's moves. -/

namespace Sys2Proof.Machine

/-! ### Transactions -/

/-- A read comes to one of three things. -/
theorem tRead_cases (n : Nat) (s : State) :
    (tRead n s = .pending ∧ readAnswered n s = false) ∨
    (tRead n s = .failed (failedRead n s) ∧ readAnswered n s = true ∧
      s.answers.head? = some .fail) ∨
    (tRead n s = .success (s.inbound.take n) (takenRead n s) ∧ readAnswered n s = true ∧
      s.answers.head? = some .ok ∧ n ≤ s.inbound.length) := by
  unfold tRead readAnswered
  split
  · exact .inl (by simp_all)
  · exact .inr (.inl (by simp_all))
  · rename_i rest h
    by_cases hl : s.inbound.length < n
    · exact .inl (by simp_all)
    · exact .inr (.inr (by simp_all))

/-- A write comes to one of three things. -/
theorem tWrite_cases (pkt : List Byte) (s : State) :
    (tWrite pkt s = .pending ∧ s.answers = []) ∨
    (tWrite pkt s = .failed (failedWrite pkt s) ∧ s.answers.head? = some .fail) ∨
    (tWrite pkt s = .success [] (sentWrite pkt s) ∧ s.answers.head? = some .ok) := by
  unfold tWrite
  split <;> simp_all

/-- A read the transport has settled on `Ok`, with its bytes there. -/
theorem tRead_ok {n : Nat} {s : State} {rest : List Answer} (ha : s.answers = .ok :: rest)
    (hn : n ≤ s.inbound.length) :
    tRead n s = .success (s.inbound.take n) (takenRead n s) := by
  simp [tRead, ha, Nat.not_lt.mpr hn]

/-- A read the transport has settled on `Fail`. -/
theorem tRead_fail {n : Nat} {s : State} {rest : List Answer} (ha : s.answers = .fail :: rest) :
    tRead n s = .failed (failedRead n s) := by
  simp [tRead, ha]

/-- A read the transport has not answered. -/
theorem tRead_pending {n : Nat} {s : State} (ha : s.answers = []) : tRead n s = .pending := by
  simp [tRead, ha]

/-- A draw is at most its bound. -/
theorem drawUpTo_le (n : Nat) (s : State) : drawUpTo n s ≤ n :=
  Nat.le_of_lt_succ (Nat.mod_lt _ (Nat.succ_pos n))

/-! ### START -/

/-- START on an idle framer. -/
theorem startThen_idle {op : OpSel} {x : Operands} {k : State → State} {s : State}
    (h : s.phase = .idle) : startThen op x k s = .next (k (latch op x s)) := by
  simp [startThen, h]

/-- START on a busy framer. -/
theorem startThen_busy {op : OpSel} {x : Operands} {k : State → State} {s : State}
    (h : s.phase ≠ .idle) : startThen op x k s = .refused .startWhileBusy := by
  simp [startThen, h]

/-- When START answers a next state. -/
theorem startThen_next {op : OpSel} {x : Operands} {k : State → State} {s t : State}
    (h : startThen op x k s = .next t) : s.phase = .idle ∧ t = k (latch op x s) := by
  unfold startThen at h
  split at h
  · cases h; exact ⟨‹_›, rfl⟩
  · cases h

/-! ### The framer's moves -/

/-- The WRITE move waits, fails, or ends OK. -/
theorem writeMove_cases (pkt : List Byte) (err : Status) (s : State) :
    (s.answers = [] ∧ writeMove pkt err s = s) ∨
    (s.answers.head? = some .fail ∧ writeMove pkt err s = finish err (failedWrite pkt s)) ∨
    (s.answers.head? = some .ok ∧ writeMove pkt err s = finish .ok (sentWrite pkt s)) := by
  unfold writeMove
  rcases tWrite_cases pkt s with ⟨h, ha⟩ | ⟨h, ha⟩ | ⟨h, ha⟩ <;> rw [h] <;> simp [ha]

/-- The FILL move waits, fails, or fills BUF, to be checked next. -/
theorem fillMove_cases (n : Nat) (err : Status) (k : State → State) (s : State) :
    (readAnswered n s = false ∧ fillMove n err k s = s) ∨
    (s.answers.head? = some .fail ∧ fillMove n err k s = finish err (failedRead n s)) ∨
    (s.answers.head? = some .ok ∧ n ≤ s.inbound.length ∧
      fillMove n err k s =
        k (toPhase .check (setBuf (s.inbound.take n) (takenRead n s)))) := by
  unfold fillMove
  rcases tRead_cases n s with ⟨h, ha⟩ | ⟨h, _, ha⟩ | ⟨h, _, ha, hn⟩ <;> rw [h]
  · exact .inl ⟨ha, rfl⟩
  · exact .inr (.inl ⟨ha, rfl⟩)
  · exact .inr (.inr ⟨ha, hn, rfl⟩)

/-- The CHECK move of RDSCAN ends OK, ends at the bound, or asks for a byte. -/
theorem rdscanCheck_cases (s : State) :
    (scanValid s.cfg.scanLayout (window s) = true ∧ rdscanCheck s = finish .ok s) ∨
    (scanValid s.cfg.scanLayout (window s) = false ∧ s.shifts = s.cfg.maxShifts ∧
      rdscanCheck s = finish .scanBound s) ∨
    (scanValid s.cfg.scanLayout (window s) = false ∧ s.shifts ≠ s.cfg.maxShifts ∧
      rdscanCheck s = toPhase .refill s) := by
  unfold rdscanCheck
  cases hv : scanValid s.cfg.scanLayout (window s)
  · by_cases hb : s.shifts = s.cfg.maxShifts
    · exact .inr (.inl (by simp [hb]))
    · exact .inr (.inr (by simp [hb]))
  · exact .inl (by simp)

/-- The REFILL move waits, fails, or shifts one byte in. -/
theorem rdscanRefill_cases (s : State) :
    (readAnswered 1 s = false ∧ rdscanRefill s = s) ∨
    (s.answers.head? = some .fail ∧ rdscanRefill s = finish .scanRead (failedRead 1 s)) ∨
    (s.answers.head? = some .ok ∧ 1 ≤ s.inbound.length ∧
      rdscanRefill s = shiftIn (byteAt (s.inbound.take 1) 0) (takenRead 1 s)) := by
  unfold rdscanRefill
  rcases tRead_cases 1 s with ⟨h, ha⟩ | ⟨h, _, ha⟩ | ⟨h, _, ha, hn⟩ <;> rw [h]
  · exact .inl ⟨ha, rfl⟩
  · exact .inr (.inl ⟨ha, rfl⟩)
  · exact .inr (.inr ⟨ha, hn, rfl⟩)

end Sys2Proof.Machine
end

