-- ==== Sys2Proof/Laws/PerInstr.lean ====
section
/-! SUPPORT. Statements made per instruction: the length of every encoding is one its format admits
(rules R90, R116). -/

namespace Sys2Proof.Laws.EncodingLength

/-- The encoding of `i` has a length its format admits. -/
def Statement (i : Instr) : Prop :=
  formatAdmitsLength (encode i).1 (encode i).2.length = true

theorem wrcmd (x : Operands) : Statement (.wrcmd x) := by cases x <;> rfl
theorem wrarg (x : Operands) : Statement (.wrarg x) := by cases x <;> rfl
theorem rdhdr (x : Operands) : Statement (.rdhdr x) := by cases x <;> rfl
theorem rdprm (x : Operands) : Statement (.rdprm x) := by cases x <;> rfl
theorem rdscan (x : Operands) : Statement (.rdscan x) := by cases x <;> rfl
theorem rdmotor (x : Operands) : Statement (.rdmotor x) := by cases x <;> rfl
theorem rdrate (x : Operands) : Statement (.rdrate x) := by cases x <;> rfl
theorem dataAcquisitionStart : Statement .dataAcquisitionStart := rfl
theorem dataAcquisitionStop : Statement .dataAcquisitionStop := rfl
theorem motorSpeedAdjust : Statement .motorSpeedAdjust := rfl
theorem motorInformation : Statement .motorInformation := rfl
theorem sampleRateAdjust : Statement .sampleRateAdjust := rfl
theorem sampleRateInformation : Statement .sampleRateInformation := rfl
theorem versionInformation : Statement .versionInformation := rfl
theorem deviceInformation : Statement .deviceInformation := rfl
theorem resetDevice : Statement .resetDevice := rfl
theorem deviceCalibration : Statement .deviceCalibration := rfl
theorem bare (c d : Byte) : Statement (.bare c d) := rfl
theorem argpkt (c d a b : Byte) : Statement (.argpkt c d a b) := rfl
theorem hdr (c d p q k : Byte) : Statement (.hdr c d p q k) := rfl
theorem prm (c d p q k : Byte) : Statement (.prm c d p q k) := rfl
theorem scanL6 (l : BitVec 5) (v : BitVec 1) (h a b : Byte) (r x : BitVec 4) (k : Byte) :
    Statement (.scanL6 l v h a b r x k) := rfl
theorem scanL5 (l : BitVec 5) (v : BitVec 1) (h a b : Byte) (r k : BitVec 4) :
    Statement (.scanL5 l v h a b r k) := rfl
theorem info (c d : Byte) (payload : List Byte) : Statement (.info c d payload) := by
  simp [Statement, encode, packInfo, formatAdmitsLength]

end Sys2Proof.Laws.EncodingLength
end

