-- ==== Sys2Proof/Laws/Step.lean ====
section
/-! SUPPORT. What a step can do, said once: which agent moved, what an input did, what a move of the
framer comes to, and the laws of several moves. -/

namespace Sys2Proof.Machine

/-! ### Inputs -/

/-- What a fed input of the host can come to. -/
theorem feedHost_next {x : HostInput} {s t : State} (h : feedHost x s = .next t) :
    (∃ f bytes i, x = .word f bytes ∧ decode (hostFormat f) bytes = .ok i ∧ exec i s = .next t) ∨
    (x = .reset ∧ t = blockReset s) ∨
    ((x = .readRes ∨ x = .readMessage) ∧ t = s) := by
  unfold feedHost at h
  split at h
  · split at h
    · exact .inl ⟨_, _, _, rfl, ‹_›, h⟩
    · cases h
  · cases h; exact .inr (.inl ⟨rfl, rfl⟩)
  · split at h
    · cases h; exact .inr (.inr ⟨.inl rfl, rfl⟩)
    all_goals cases h
  · split at h
    · cases h; exact .inr (.inr ⟨.inr rfl, rfl⟩)
    all_goals cases h

/-- What a fed input of the transport can come to. -/
theorem feedTransport_next {x : TransportInput} {s t : State} (h : feedTransport x s = .next t) :
    (∃ f bytes i, x = .word f bytes ∧ decode (arrivalFormat f) bytes = .ok i ∧
      exec i s = .next t) ∨
    (∃ bytes, x = .line bytes ∧ t = receive bytes s) ∨
    (∃ a, x = .answer a ∧ t = settle a s) := by
  unfold feedTransport at h
  split at h
  · split at h
    · exact .inl ⟨_, _, _, rfl, ‹_›, h⟩
    · cases h
  · cases h; exact .inr (.inl ⟨_, rfl, rfl⟩)
  · cases h; exact .inr (.inr ⟨_, rfl, rfl⟩)

/-! ### Whose step it is -/

/-- The agent chosen can move. -/
theorem nextAgent_ready {s : State} {a : Agent} (h : nextAgent s = some a) :
    ready a s = true := by
  have hd : defaultAgent s = some a → ready a s = true := by
    unfold defaultAgent
    intro h
    repeat' split at h
    all_goals first | (cases h; assumption) | cases h
  unfold nextAgent at h
  split at h
  · exact hd h
  · split at h
    · cases h; assumption
    · exact hd h

/-- A step is the framer's move, an input of the host, an input of the transport, or nothing but the
passing of a turn. -/
theorem step_eq (s : State) :
    (nextAgent s = some .framer ∧ canMove s = true ∧ step s = resume (passTurn s)) ∨
    (nextAgent s = some .host ∧ ∃ x rest, s.program = x :: rest ∧
      (s.phase = .idle ∨ x = .reset) ∧
      step s = feedHost x { passTurn s with program := rest }) ∨
    (nextAgent s = some .transport ∧ ∃ x rest, s.wire = x :: rest ∧
      step s = feedTransport x { passTurn s with wire := rest }) ∨
    (nextAgent s = none ∧ step s = .next (passTurn s)) := by
  have hs : step s = stepOnce s := rfl
  unfold stepOnce at hs
  split at hs
  · rename_i h
    exact .inl ⟨h, nextAgent_ready h, hs⟩
  · rename_i h
    have hr := nextAgent_ready h
    unfold hostTurn at hs
    rcases hp : s.program with _ | ⟨x, rest⟩
    · simp [ready, hp] at hr
    · simp only [passTurn_program, hp] at hs
      refine .inr (.inl ⟨h, x, rest, rfl, ?_, hs⟩)
      cases x <;> simp_all [ready, busy]
  · rename_i h
    have hr := nextAgent_ready h
    unfold transportTurn at hs
    rcases hw : s.wire with _ | ⟨x, rest⟩
    · simp [ready, hw] at hr
    · simp only [passTurn_wire, hw] at hs
      exact .inr (.inr (.inl ⟨h, x, rest, rfl, hs⟩))
  · rename_i h
    exact .inr (.inr (.inr ⟨h, hs⟩))

/-- A framer that can move is not idle. -/
theorem canMove_busy {s : State} (h : canMove s = true) : s.phase ≠ .idle := by
  intro hp
  simp [canMove, hp] at h

/-! ### One move of the framer -/

/-- An idle framer has no move. -/
theorem resume_idle {s : State} (h : s.phase = .idle) : resume s = .next s := by
  simp [resume, h]

/-- Where a running operation goes on from: the move of its own phase. -/
theorem resume_next {s t : State} (h : resume s = .next t) (hp : s.phase ≠ .idle) :
    (s.phase = .write ∧ (s.opsel = .wrcmd ∧ t = wrcmdWrite s ∨ s.opsel = .wrarg ∧ t = wrargWrite s)) ∨
    (s.phase = .fill ∧
      (s.opsel = .rdhdr ∧ t = rdhdrFill s ∨ s.opsel = .rdprm ∧ t = rdprmFill s ∨
       s.opsel = .rdscan ∧ t = rdscanFill s ∨ s.opsel = .rdmotor ∧ t = rdmotorFill s ∨
       s.opsel = .rdrate ∧ t = rdrateFill s)) ∨
    (s.phase = .check ∧
      (s.opsel = .rdhdr ∧ t = rdhdrCheck s ∨ s.opsel = .rdprm ∧ t = rdprmCheck s ∨
       s.opsel = .rdscan ∧ t = rdscanCheck s ∨ s.opsel = .rdmotor ∧ t = rdmotorCheck s ∨
       s.opsel = .rdrate ∧ t = rdrateCheck s)) ∨
    (s.phase = .refill ∧ s.opsel = .rdscan ∧ t = rdscanRefill s) := by
  unfold resume at h
  split at h <;> first | contradiction | (cases h; simp_all)

/-! ### Several moves -/

@[simp] theorem moves_zero (s : State) : moves 0 s = .next s := rfl

/-- One move, then the others. -/
theorem moves_succ_of {n : Nat} {s t : State} (h : resume s = .next t) :
    moves (n + 1) s = moves n t := by
  simp [moves, h]

/-- A first move of several that come to a next state. -/
theorem moves_succ_next {n : Nat} {s t : State} (h : moves (n + 1) s = .next t) :
    ∃ v, resume s = .next v ∧ moves n v = .next t := by
  unfold moves at h
  split at h
  · exact ⟨_, ‹_›, h⟩
  all_goals cases h

/-- Moves add up. -/
theorem moves_add {m n : Nat} {s t : State} (h : moves m s = .next t) :
    moves (m + n) s = moves n t := by
  induction m generalizing s with
  | zero => simp at h; subst h; simp
  | succ m ih =>
    obtain ⟨v, hv, hm⟩ := moves_succ_next h
    rw [show m + 1 + n = m + n + 1 by omega, moves_succ_of hv, ih hm]

/-- A state whose move leaves it as it is stays. -/
theorem moves_fixed {n : Nat} {s : State} (h : resume s = .next s) : moves n s = .next s := by
  induction n with
  | zero => rfl
  | succ n ih => rw [moves_succ_of h, ih]

/-- An idle framer stays as it is. -/
theorem moves_idle {n : Nat} {s : State} (h : s.phase = .idle) : moves n s = .next s :=
  moves_fixed (resume_idle h)

/-- The induction over moves: what holds where they start and what every move keeps holds where they
end. -/
theorem moves_induct {P : State → Prop} (keep : ∀ s t, P s → resume s = .next t → P t) :
    ∀ {n : Nat} {s t : State}, P s → moves n s = .next t → P t := by
  intro n
  induction n with
  | zero => intro s t hs h; simp at h; exact h ▸ hs
  | succ n ih =>
    intro s t hs h
    obtain ⟨v, hv, hm⟩ := moves_succ_next h
    exact ih (keep s v hs hv) hm

end Sys2Proof.Machine
end

