-- ==== Sys2Proof/Tests/Slice0.lean ====
section
/-! SUPPORT. The author's tests: words decoded by hand from the spec's tables, ill-formed terms that the
check refuses, single operations on the vectors of 95_test_vectors.md, and for every statement with hypotheses
a witness that meets them all. Expected results are the spec's own, never the model's. -/

namespace Sys2Proof.Tests

open Sys2Proof Sys2Proof.Machine

/-! ### Helpers -/

/-- Bytes from their numbers. -/
def bs (ns : List Nat) : List Byte := ns.map (BitVec.ofNat 8)

/-- A configuration with info packets of 5 bytes, as the vectors of family 43 take them. -/
def cfgOf (layout : ScanLayout) (maxShifts : Nat) : Config where
  scanLayout := layout
  angleOrder := .le
  maxShifts := maxShifts
  motorPayloadLen := 3
  ratePayloadLen := 3

/-- An idle framer in layout `layout` with a shift bound, settled answers and an inbound stream. -/
def at_ (layout : ScanLayout) (maxShifts : Nat) (answers : List Answer) (inbound : List Nat) :
    State :=
  { State.reset with
    cfg := cfgOf layout maxShifts
    buf := List.replicate 6 0#8
    answers := answers
    inbound := bs inbound }

/-- The same in layout L6 with 2 shifts. -/
def idle (answers : List Answer) (inbound : List Nat) : State := at_ .l6 2 answers inbound

/-- What an operation that ended came to: its status, its result, its shifts, the bytes it took, the
outbound stream. -/
structure End where
  status : Status
  res : Option (List Byte)
  shifts : Nat
  consumed : Nat
  outbound : List Byte
  deriving DecidableEq, Repr

/-- The end of an operation; none when it has not ended. -/
def outcome : Host.Outcome State Fault Refusal → Option End
  | .next t =>
      if t.done && t.phase == .idle then some ⟨t.status, t.res, t.shifts, t.consumed, t.outbound⟩
      else none
  | _ => none

/-- An operation from its START to its end, or to where it waits. -/
def perform (i : Instr) (s : State) : Host.Outcome State Fault Refusal :=
  match exec i s with
  | .next u => operate u
  | o => o

/-- Operands named by a code, the argument zero. -/
def code (c0 c1 : Nat) : Operands := .given (BitVec.ofNat 8 c0) (BitVec.ofNat 8 c1) 0#8 0#8

/-! ### Decoding: every row, its bytes written out from the spec -/

/-- Rule R110: the seven operation numbers, alone and with their operands (rule R117). -/
theorem test_decode_hostops :
    [1, 2, 3, 4, 5, 6, 7].map (fun n => decode .hostop (bs [n])) =
      [.ok (.wrcmd .ports), .ok (.wrarg .ports), .ok (.rdhdr .ports), .ok (.rdprm .ports),
       .ok (.rdscan .ports), .ok (.rdmotor .ports), .ok (.rdrate .ports)] ∧
    decode .hostop (bs [2, 0x4D, 0x53, 0x30, 0x35]) =
      .ok (.wrarg (.given 0x4D#8 0x53#8 0x30#8 0x35#8)) := by decide

/-- Rule R200: the ten constants, in the table's order. -/
theorem test_decode_codes :
    [[0x44, 0x53], [0x44, 0x58], [0x4D, 0x53], [0x4D, 0x49], [0x4C, 0x52], [0x4C, 0x49],
     [0x49, 0x56], [0x49, 0x44], [0x52, 0x52], [0x43, 0x53]].map (fun w => decode .cmd2 (bs w)) =
      [.ok .dataAcquisitionStart, .ok .dataAcquisitionStop, .ok .motorSpeedAdjust,
       .ok .motorInformation, .ok .sampleRateAdjust, .ok .sampleRateInformation,
       .ok .versionInformation, .ok .deviceInformation, .ok .resetDevice,
       .ok .deviceCalibration] := by decide

/-- Rules R91 to R94 and R97: the packets without bit fields. -/
theorem test_decode_packets :
    decode .wireBare (bs [0x44, 0x53, 0x0A]) = .ok (.bare 0x44#8 0x53#8) ∧
    decode .wireArgpkt (bs [0x4D, 0x53, 0x30, 0x35, 0x0A]) =
      .ok (.argpkt 0x4D#8 0x53#8 0x30#8 0x35#8) ∧
    decode .wireHdr (bs [0x44, 0x53, 0x7A, 0x01, 0x6B]) =
      .ok (.hdr 0x44#8 0x53#8 0x7A#8 0x01#8 0x6B#8) ∧
    decode .wirePrm (bs [0x4D, 0x53, 0x30, 0x35, 0x55]) =
      .ok (.prm 0x4D#8 0x53#8 0x30#8 0x35#8 0x55#8) ∧
    decode .wireInfo (bs [0x4D, 0x49, 0x30, 0x35, 0x0A]) =
      .ok (.info 0x4D#8 0x49#8 (bs [0x30, 0x35, 0x0A])) := by decide

/-- Rules R95, R96, bit by bit: records B and C of 95_test_vectors.md. -/
theorem test_decode_scan :
    decode .wireScanL6 [0b00011_0_01#8, 0x40#8, 0x40#8, 0x0B#8, 0b0101_0000#8, 0x04#8] =
      .ok (.scanL6 3#5 0#1 0x40#8 0x40#8 0x0B#8 5#4 0#4 0x04#8) ∧
    decode .wireScanL5 [0b00111_1_01#8, 0x02#8, 0x00#8, 0x5A#8, 0b0011_0110#8] =
      .ok (.scanL5 7#5 1#1 0x02#8 0x00#8 0x5A#8 3#4 6#4) := by decide

/-- What is no instruction of its format: each reason once. -/
theorem test_decode_refuses :
    decode .hostop (bs [0]) = .error .reservedOpsel ∧
    decode .hostop (bs [8]) = .error .opselOutOfRange ∧
    decode .cmd2 (bs [0x64, 0x73]) = .error .unknownConstant ∧
    decode .wireBare (bs [0x44, 0x53, 0x0D]) = .error .badTerminator ∧
    decode .wireArgpkt (bs [0x44, 0x53, 0x0A, 0x0A, 0x0B]) = .error .badTerminator ∧
    decode .wireScanL6 (bs [0xAF, 0x12, 0x34, 0x12, 0x90, 0x02]) = .error .badSync ∧
    decode .wireScanL5 (bs [0xAC, 0x12, 0x34, 0x12, 0x9E]) = .error .badSync ∧
    decode .wireHdr (bs [0x44, 0x53, 0x30, 0x30]) = .error .badLength ∧
    decode .wireInfo (bs [0x44]) = .error .badLength := by decide

/-- Words of the opcode table, in its own numbering. -/
theorem test_table_words :
    decodeTableWord 3 5 = some (.rdscan (code 0 0)) ∧
    decodeTableWord 16 0x4D49 = some .motorInformation ∧
    decodeTableWord 24 0x44530A = some (.bare 0x44#8 0x53#8) ∧
    decodeTableWord 40 0x4D5330350A = some (.argpkt 0x4D#8 0x53#8 0x30#8 0x35#8) ∧
    decodeTableWord 48 0x1940400B5004 =
      some (.scanL6 3#5 0#1 0x40#8 0x40#8 0x0B#8 5#4 0#4 0x04#8) := by decide

/-! ### WellFormed: an ill-formed term for each check -/

/-- A record of layout L6 under a configuration of layout L5 (rule R95). -/
theorem test_wf_scanL6 :
    WellFormed (cfgOf .l5 2) (.scanL6 3#5 0#1 0x40#8 0x40#8 0x0B#8 5#4 0#4 0x04#8) = false ∧
    WellFormed (cfgOf .l6 2) (.scanL6 3#5 0#1 0x40#8 0x40#8 0x0B#8 5#4 0#4 0x04#8) = true := by
  decide

/-- A record of layout L5 under a configuration of layout L6 (rule R96). -/
theorem test_wf_scanL5 :
    WellFormed (cfgOf .l6 2) (.scanL5 3#5 0#1 0x40#8 0x40#8 0x0B#8 5#4 4#4) = false ∧
    WellFormed (cfgOf .l5 2) (.scanL5 3#5 0#1 0x40#8 0x40#8 0x0B#8 5#4 4#4) = true := by decide

/-- An info packet of neither configured length (rule R97). -/
theorem test_wf_info :
    WellFormed (cfgOf .l6 2) (.info 0x4D#8 0x49#8 (bs [1, 2])) = false ∧
    WellFormed (cfgOf .l6 2) (.info 0x4D#8 0x49#8 (bs [1, 2, 3])) = true := by decide

/-! ### One operation each, on the spec's vectors -/

/-- V40-1, V40-5. -/
theorem test_wrcmd :
    outcome (perform (.wrcmd (code 0x44 0x53)) (idle [.ok] [])) =
      some ⟨.ok, none, 0, 0, bs [0x44, 0x53, 0x0A]⟩ ∧
    outcome (perform (.wrcmd (code 0x0A 0x0A)) (idle [.ok] [])) =
      some ⟨.ok, none, 0, 0, bs [0x0A, 0x0A, 0x0A]⟩ := by decide

/-- V40-7. -/
theorem test_wrarg :
    outcome (perform (.wrarg (.given 0x4D#8 0x53#8 0x30#8 0x35#8)) (idle [.ok] [])) =
      some ⟨.ok, none, 0, 0, bs [0x4D, 0x53, 0x30, 0x35, 0x0A]⟩ := by decide

/-- V41-5, V41-9, V41-10. -/
theorem test_rdhdr :
    [[0x44, 0x53, 0xFF, 0xFF, 0x6E], [0x44, 0x58, 0x30, 0x30, 0x50],
     [0x44, 0x58, 0x30, 0x30, 0x51]].map
        (fun w => outcome (perform (.rdhdr (code 0x44 0x53)) (idle [.ok] w))) =
      [some ⟨.ok, some (bs [0x44, 0x53, 0xFF, 0xFF, 0x6E]), 0, 5, []⟩,
       some ⟨.headerCmd, none, 0, 5, []⟩, some ⟨.headerChecksum, none, 0, 5, []⟩] := by decide

/-- P4, steps 2 to 4. -/
theorem test_rdprm :
    [[0x4D, 0x53, 0x30, 0x30, 0x51], [0x4D, 0x49, 0x30, 0x30, 0x50],
     [0x4D, 0x53, 0x30, 0x35, 0x55]].map
        (fun w => outcome (perform (.rdprm (code 0x4D 0x53)) (idle [.ok] w))) =
      [some ⟨.paramChecksum, none, 0, 5, []⟩, some ⟨.paramCmd, none, 0, 5, []⟩,
       some ⟨.ok, some (bs [0x4D, 0x53, 0x30, 0x35, 0x55]), 0, 5, []⟩] := by decide

/-- S3 and V42-12, in layout L6. -/
theorem test_rdscan_l6 :
    outcome (perform (.rdscan .ports)
      (at_ .l6 2 [.ok, .ok] [0x5A, 0xAD, 0x12, 0x34, 0x12, 0x90, 0x00, 0x19])) =
      some ⟨.ok, some (bs [0xAD, 0x12, 0x34, 0x12, 0x90, 0x00]), 1, 7, []⟩ ∧
    outcome (perform (.rdscan .ports)
      (at_ .l6 0 [.ok, .ok] [0x5A, 0xAD, 0x12, 0x34, 0x12, 0x90, 0x00])) =
      some ⟨.scanBound, none, 0, 6, []⟩ := by decide

/-- S3, and the boundary of V42-5 and V42-6 with a bound of 2, in layout L5. -/
theorem test_rdscan_l5 :
    outcome (perform (.rdscan .ports)
      (at_ .l5 2 [.ok, .ok] [0x5A, 0xAD, 0x12, 0x34, 0x12, 0x90, 0x19])) =
      some ⟨.ok, some (bs [0xAD, 0x12, 0x34, 0x12, 0x90]), 1, 6, []⟩ ∧
    outcome (perform (.rdscan .ports)
      (at_ .l5 2 [.ok, .ok, .ok, .ok] [0, 0, 0xAD, 0x12, 0x34, 0x12, 0x90])) =
      some ⟨.ok, some (bs [0xAD, 0x12, 0x34, 0x12, 0x90]), 2, 7, []⟩ ∧
    outcome (perform (.rdscan .ports)
      (at_ .l5 2 [.ok, .ok, .ok, .ok] [0, 0, 0, 0xAD, 0x12, 0x34, 0x12, 0x90])) =
      some ⟨.scanBound, none, 2, 7, []⟩ := by decide

/-- V43-1, V43-2. -/
theorem test_rdmotor :
    outcome (perform (.rdmotor (code 0x4D 0x49)) (idle [.ok] [0x4D, 0x49, 0x30, 0x35, 0x0A])) =
      some ⟨.ok, some (bs [0x4D, 0x49, 0x30, 0x35, 0x0A]), 0, 5, []⟩ ∧
    outcome (perform (.rdmotor (code 0x4D 0x49)) (idle [.ok] [0x4D, 0x53, 0x30, 0x35, 0x0A])) =
      some ⟨.motorCmd, none, 0, 5, []⟩ := by decide

/-- V43-5, V43-6. -/
theorem test_rdrate :
    outcome (perform (.rdrate (code 0x4C 0x49)) (idle [.ok] [0x4C, 0x49, 0x30, 0x31, 0x0A])) =
      some ⟨.ok, some (bs [0x4C, 0x49, 0x30, 0x31, 0x0A]), 0, 5, []⟩ ∧
    outcome (perform (.rdrate (code 0x4C 0x49)) (idle [.ok] [0x4C, 0x52, 0x30, 0x31, 0x0A])) =
      some ⟨.rateCmd, none, 0, 5, []⟩ := by decide

/-- S7: a failing transaction is its own kind, for every operation. -/
theorem test_transport_failures :
    [Instr.wrcmd .ports, .wrarg .ports, .rdhdr .ports, .rdprm .ports, .rdscan .ports,
     .rdmotor .ports, .rdrate .ports].map (fun i =>
        (outcome (perform i (idle [.fail] []))).map fun e => (statusCode e.status).toNat) =
      [some 1, some 2, some 3, some 6, some 9, some 11, some 13] := by decide

/-- P2, step 3: the decoded fields of record A (rule R48). -/
theorem test_scan_fields :
    scanRecordOf (cfgOf .l6 2) (bs [0xAD, 0x12, 0x34, 0x12, 0x90, 0x00]) =
      { s1 := 1#1, s2 := 0#1, vhl := 1#1, distanceLow := 21#5, distanceHigh := 0x12#8
        angle := 0x1234#16, vrect := 9#4, checksum := 0 } := by decide

/-- S2: the four sync patterns with a matching checksum, in both layouts. -/
theorem test_sync_patterns :
    [[0xAD, 0x12, 0x34, 0x12, 0x90, 0x00], [0xAC, 0x12, 0x34, 0x12, 0x90, 0x0E],
     [0xAE, 0x12, 0x34, 0x12, 0x90, 0x01], [0xAF, 0x12, 0x34, 0x12, 0x90, 0x02]].map
        (fun w => (scanChkOk .l6 (bs w), scanValid .l6 (bs w))) =
      [(true, true), (true, false), (true, false), (true, false)] ∧
    [[0xAD, 0x12, 0x34, 0x12, 0x90], [0xAC, 0x12, 0x34, 0x12, 0x9E],
     [0xAE, 0x12, 0x34, 0x12, 0x91], [0xAF, 0x12, 0x34, 0x12, 0x92]].map
        (fun w => (scanChkOk .l5 (bs w), scanValid .l5 (bs w))) =
      [(true, true), (true, false), (true, false), (true, false)] := by decide

/-- Family 41's values of `HDR_CHK`. -/
theorem test_hdr_chk :
    [(0x00, 0x00), (0x30, 0x31), (0x39, 0x39), (0x70, 0x30), (0x80, 0x80), (0xFF, 0xFF)].map
      (fun (p : Nat × Nat) => hdrChk (BitVec.ofNat 8 p.1) (BitVec.ofNat 8 p.2)) =
      [0x30, 0x51, 0x62, 0x50, 0x30, 0x6E] := by decide

/-- Family 44: a constant named, then sent with the operands of the ports. -/
theorem test_code_then_wrcmd :
    ([Instr.dataAcquisitionStart, .dataAcquisitionStop, .motorSpeedAdjust, .motorInformation,
      .sampleRateAdjust, .sampleRateInformation, .versionInformation, .deviceInformation,
      .resetDevice, .deviceCalibration].map fun i =>
        match exec i (idle [.ok] []) with
        | .next s => outcome (perform (.wrcmd .ports) s)
        | _ => none) =
      [[0x44, 0x53, 0x0A], [0x44, 0x58, 0x0A], [0x4D, 0x53, 0x0A], [0x4D, 0x49, 0x0A],
       [0x4C, 0x52, 0x0A], [0x4C, 0x49, 0x0A], [0x49, 0x56, 0x0A], [0x49, 0x44, 0x0A],
       [0x52, 0x52, 0x0A], [0x43, 0x53, 0x0A]].map fun w => some ⟨.ok, none, 0, 0, bs w⟩ := by
  decide

/-- The packets: BARE and ARGPKT on the outbound stream, the others on the inbound one. -/
theorem test_packets :
    outcome (perform (.bare 0x44#8 0x58#8) (idle [.ok] [])) =
      some ⟨.ok, none, 0, 0, bs [0x44, 0x58, 0x0A]⟩ ∧
    outcome (perform (.argpkt 0x4C#8 0x52#8 0x30#8 0x31#8) (idle [.ok] [])) =
      some ⟨.ok, none, 0, 0, bs [0x4C, 0x52, 0x30, 0x31, 0x0A]⟩ ∧
    exec (.scanL6 21#5 1#1 0x12#8 0x34#8 0x12#8 9#4 0#4 0x00#8) (idle [] []) =
      .next (idle [] [0xAD, 0x12, 0x34, 0x12, 0x90, 0x00]) ∧
    exec (.scanL5 3#5 0#1 0x40#8 0x40#8 0x0B#8 5#4 4#4) (idle [] [0x5A]) =
      .next (idle [] [0x5A, 0x19, 0x40, 0x40, 0x0B, 0x54]) ∧
    exec (.info 0x4D#8 0x49#8 (bs [0x30])) (idle [] []) = .next (idle [] [0x4D, 0x49, 0x30]) := by
  refine ⟨by decide, by decide, rfl, rfl, rfl⟩

/-- Rule R65: what a failed read lost beyond the bytes that had arrived is lost as they arrive. -/
theorem test_lost_bytes_do_not_arrive :
    exec (.info 0x4D#8 0x49#8 (bs [0x30])) { idle [] [] with skip := 2 } =
      .next (idle [] [0x30]) ∧
    exec (.info 0x4D#8 0x49#8 []) { idle [] [] with skip := 4 } =
      .next { idle [] [] with skip := 2 } := ⟨rfl, rfl⟩

/-- A step fetches and runs a word of the opcode table right after reset: the host's, and an arrival. -/
theorem test_withFetchWord :
    step (State.reset.withFetchWord 3 3) = exec (.rdhdr (code 0 0)) State.reset ∧
    step (State.reset.withFetchWord 48 0x1940400B5004) =
      exec (.scanL6 3#5 0#1 0x40#8 0x40#8 0x0B#8 5#4 0#4 0x04#8) State.reset := ⟨rfl, rfl⟩

/-- Rule R22: one step, one transaction or one set of checks: RDHDR from START through its read to its
checks. -/
theorem test_one_move_each :
    (exec (.rdhdr (code 0x44 0x53)) (idle [.ok] [0x44, 0x53, 0x30, 0x30, 0x50])) =
      .next (latch .rdhdr (code 0x44 0x53) (idle [.ok] [0x44, 0x53, 0x30, 0x30, 0x50])) ∧
    (match moves 1 (latch .rdhdr (code 0x44 0x53) (idle [.ok] [0x44, 0x53, 0x30, 0x30, 0x50])) with
      | .next t => t.phase = .check ∧ t.done = false ∧ t.consumed = 5
      | _ => False) := ⟨rfl, rfl, rfl, rfl⟩

/-- Rule R218: STATUS 0 has no message, a bound error has RDSCAN's. -/
theorem test_messages :
    message .ok = none ∧ message .scanBound = some "invalid scan response commands" := by decide

/-! ### Sound states for the witnesses -/

/-- RDSCAN with its first read outstanding. -/
def waiting : State := latch .rdscan .ports (idle [] [])

/-- WRCMD with its write outstanding, the block's reset the host's next input. -/
def writing : State :=
  { latch .wrcmd (code 0x44 0x53) (idle [] []) with program := [.reset] }

/-- RDHDR "DS" ended OK. -/
def accepted_ : State :=
  { idle [] [] with
    opsel := .rdhdr, code0 := 0x44#8, code1 := 0x53#8, done := true
    res := some (bs [0x44, 0x53, 0x30, 0x30, 0x50]), resLen := 5 }

theorem test_waiting_sound : Sound waiting :=
  ⟨by decide, by decide, by decide, by decide, by decide, by decide, by decide,
    (by intro w h; cases h), (by intro n h; cases h), by decide, by decide⟩

theorem test_accepted_sound : Sound accepted_ :=
  ⟨by decide, by decide, by decide, by decide, by decide, by decide, by decide,
    (by intro w h; cases h; decide), (by intro n _ _ _; exact ⟨_, rfl⟩), by decide, by decide⟩

/-! ### Witnesses: the hypotheses of each statement, met together -/

theorem test_witness_DecodedBytesAreTheEncoding :
    decode .wireInfo (bs [0x4D, 0x49]) = .ok (.info 0x4D#8 0x49#8 []) := by decide

theorem test_witness_UnassignedOpselRefused :
    (∀ op ∈ bs [0, 8, 255], op = 0#8 ∨ 7 < op.toNat) ∧
    nextAgent { idle [] [] with program := [.word .hostop (bs [8])] } = some .host ∧
    step { idle [] [] with program := [.word .hostop (bs [0])] } =
      .refused (.undecodable .reservedOpsel) ∧
    step { idle [] [] with program := [.word .hostop (bs [8, 1, 2, 3, 4])] } =
      .refused (.undecodable .opselOutOfRange) := ⟨by decide, rfl, rfl, rfl⟩

/-- Each agent once, and a turn that lets the host's reset go before the framer's check. -/
theorem test_witness_StepRunsTheDecodedInstruction :
    nextAgent { idle [] [] with program := [.word .cmd2 (bs [0x44, 0x53])] } = some .host ∧
    decode (hostFormat .cmd2) (bs [0x44, 0x53]) = .ok .dataAcquisitionStart ∧
    nextAgent { waiting with wire := [.word .wireInfo (bs [0x4D, 0x49])] } = some .transport ∧
    decode (arrivalFormat .wireInfo) (bs [0x4D, 0x49]) = .ok (.info 0x4D#8 0x49#8 []) ∧
    nextAgent { waiting with phase := .check } = some .framer ∧
    ready .host { waiting with phase := .check, program := [.reset], turns := [.host] } = true ∧
    nextAgent { waiting with phase := .check, program := [.reset], turns := [.host] } =
      some .host := by decide

theorem test_witness_UnansweredTransactionWaits :
    Sound waiting ∧ waiting.phase ≠ .idle ∧ waiting.phase ≠ .check ∧ waiting.answers = [] ∧
      waiting.wire = [] ∧ waiting.program.head? ≠ some .reset :=
  ⟨test_waiting_sound, by decide, by decide, rfl, rfl, by decide⟩

/-- A move in each of WRITE, FILL, CHECK and REFILL, and an operation that waits in REFILL. -/
theorem test_witness_LateAnswersChangeNothing :
    canMove { writing with answers := [.ok] } = true ∧
    canMove { waiting with answers := [.fail] } = true ∧
    canMove { waiting with phase := .check } = true ∧
    canMove { waiting with phase := .refill, answers := [.ok], inbound := [0#8] } = true ∧
    (∃ u t, exec (.rdscan .ports) (idle [.ok] [0, 0, 0, 0, 0, 0]) = .next u ∧
      operate u = .next t ∧ t.phase = .refill) :=
  ⟨by decide, by decide, by decide, by decide, _, _, rfl, rfl, rfl⟩

theorem test_witness_StepKeepsInvariant :
    Sound waiting ∧ step waiting = .next waiting ∧ Sound accepted_ ∧
      step accepted_ = .next accepted_ :=
  ⟨test_waiting_sound, rfl, test_accepted_sound, rfl⟩

theorem test_witness_EveryRunIsSafe : Sound waiting := test_waiting_sound

theorem test_witness_OnlyAnEmptyResReadFaults :
    Sound { idle [] [] with program := [.readRes] } ∧
    step { idle [] [] with program := [.readRes] } = .fault .resNoValue :=
  ⟨⟨by decide, by decide, by decide, by decide, by decide, by decide, by decide,
    (by intro w h; cases h), (by intro n h; cases h), by decide, by decide⟩, rfl⟩

theorem test_witness_ConfigurationNeverChanges :
    step { idle [] [] with program := [.reset] } =
      .next (blockReset (idle [] [])) := rfl

/-- A move, an instruction, an input of the host and one of the transport, while RDSCAN runs. -/
theorem test_witness_LatchesHoldWhileBusy :
    waiting.phase ≠ .idle ∧
    (∃ t, resume { waiting with answers := [.fail] } = .next t) ∧
    (∃ t, exec .resetDevice waiting = .next t) ∧
    (∃ t, feedHost (.word .cmd2 (bs [0x44, 0x58])) waiting = .next t) ∧
    (∃ t, feedTransport (.answer .ok) waiting = .next t) ∧
    (∃ t, feedTransport (.line (bs [0x00, 0x0A])) waiting = .next t) :=
  ⟨by decide, ⟨_, rfl⟩, ⟨_, rfl⟩, ⟨_, rfl⟩, ⟨_, rfl⟩, ⟨_, rfl⟩⟩

theorem test_witness_OutboundStreamOnlyGrows :
    ∃ t, step { writing with answers := [.ok] } = .next t ∧ t.outbound = bs [0x44, 0x53, 0x0A] :=
  ⟨_, rfl, rfl⟩

theorem test_witness_OnlyAStartWhileBusyIsRefused :
    begins .resetDevice = none ∧ (idle [] []).phase = .idle ∧
    begins (.bare 0#8 0#8) ≠ none ∧ waiting.phase ≠ .idle := by decide

theorem test_witness_StartLatchesOperands :
    (Instr.rdrate (code 1 2), OpSel.rdrate) ∈
      [(Instr.wrcmd (code 1 2), OpSel.wrcmd), (.wrarg (code 1 2), .wrarg),
       (.rdhdr (code 1 2), .rdhdr), (.rdprm (code 1 2), .rdprm), (.rdscan (code 1 2), .rdscan),
       (.rdmotor (code 1 2), .rdmotor), (.rdrate (code 1 2), .rdrate)] ∧
    code 1 2 = .given 1#8 2#8 0#8 0#8 ∧
    (0#8 = (idle [] []).hostCode0 ∧ 0#8 = (idle [] []).hostArg1) ∧
    (idle [] []).phase = .idle := by decide

/-- A write after one move, a read after its answered read, with something consumed. -/
theorem test_witness_NothingIsCarriedOver :
    (∃ u t, exec (.wrarg .ports) (idle [.ok] []) = .next u ∧ moves 1 u = .next t ∧
      begins (.wrarg .ports) = some .wrarg ∧ t.done = true) ∧
    (∃ u t, exec (.rdhdr (code 0x44 0x53)) (idle [.ok] [0x44, 0x53, 0x30, 0x30, 0x50]) = .next u ∧
      moves 1 u = .next t ∧ begins (.rdhdr (code 0x44 0x53)) = some .rdhdr ∧
      readLen (cfgOf .l6 2) .rdhdr = some 5 ∧ t.consumed ≠ 0) :=
  ⟨⟨_, _, rfl, rfl, rfl, rfl⟩, ⟨_, _, rfl, rfl, rfl, rfl, by decide⟩⟩

theorem test_witness_WrcmdSendsABarePacket :
    (idle [.ok] []).phase = .idle ∧ (idle [.ok] []).answers = .ok :: [] := by decide

theorem test_witness_WrargSendsAnArgumentPacket :
    (idle [.ok, .fail] []).phase = .idle ∧ (idle [.ok, .fail] []).answers = .ok :: [.fail] := by
  decide

theorem test_witness_FailedWriteIsReportedOnce :
    (idle [.fail] []).phase = .idle ∧ (idle [.fail] []).answers = .fail :: [] := by decide

/-- One packet per outcome of the two decoders: checksum wrong, echo wrong, accepted. -/
theorem test_witness_RdhdrDecides_RdprmDecides :
    (idle [.ok] [0x44, 0x53, 0x30, 0x30, 0x50, 0x99]).phase = .idle ∧
    (idle [.ok] [0x44, 0x53, 0x30, 0x30, 0x50, 0x99]).answers = .ok :: [] ∧
    (idle [.ok] [0x44, 0x53, 0x30, 0x30, 0x50, 0x99]).inbound =
      [0x44#8, 0x53#8, 0x30#8, 0x30#8, 0x50#8] ++ [0x99#8] ∧
    (0x51#8 : Byte).toNat ≠ (((0x30#8 : Byte).toNat + (0x30#8 : Byte).toNat) &&& 0x3F) + 0x30 ∧
    (0x50#8 : Byte).toNat = (((0x30#8 : Byte).toNat + (0x30#8 : Byte).toNat) &&& 0x3F) + 0x30 := by
  decide

theorem test_witness_ResponseChecksAreOrdered :
    (idle [.fail] []).phase = .idle ∧ (idle [.fail] []).answers = .fail :: [] ∧
    (idle [.ok] [0x44, 0x58, 0x30, 0x30, 0x51]).answers = .ok :: [] ∧
    (idle [.ok] [0x44, 0x58, 0x30, 0x30, 0x51]).inbound =
      [0x44#8, 0x58#8, 0x30#8, 0x30#8, 0x51#8] ++ [] := by decide

theorem test_witness_WrongEchoIsACommandError :
    (idle [.ok] [0x44, 0x58, 0x30, 0x30, 0x50]).inbound =
      [0x44#8, 0x58#8, 0x30#8, 0x30#8, 0x50#8] ++ [] ∧
    hdrChkOk [0x44#8, 0x58#8, 0x30#8, 0x30#8, 0x50#8] = true ∧
    (0x58#8 : Byte) ≠ operandCode1 (code 0x44 0x53) (idle [] []) := by decide

theorem test_witness_FlippedChecksumIsAChecksumError :
    (idle [.ok] [0x44, 0x53, 0x30, 0x30, 0xAF]).inbound =
      [operandCode0 (code 0x44 0x53) (idle [] []), operandCode1 (code 0x44 0x53) (idle [] []),
       0x30#8, 0x30#8, 0xAF#8] ++ [] ∧
    hdrChkOk [0x44#8, 0x53#8, 0x30#8, 0x30#8, 0x50#8] = true ∧ (0xAF#8 : Byte) ≠ 0x50#8 := by
  decide

/-- V43-8: the shortest info packet, its payload empty, among the lengths. -/
theorem test_witness_RdmotorDecides_RdrateDecides :
    (idle [.ok] [0x4D, 0x49, 0x30, 0x35, 0x0A]).inbound =
      0x4D#8 :: 0x49#8 :: (bs [0x30, 0x35, 0x0A] ++ []) ∧
    (bs [0x30, 0x35, 0x0A]).length = (idle [] []).cfg.motorPayloadLen ∧
    (bs [0x30, 0x35, 0x0A]).length = (idle [] []).cfg.ratePayloadLen ∧
    ({ idle [.ok] [0x4D, 0x49] with
        cfg := { cfgOf .l6 2 with motorPayloadLen := 0 } } : State).inbound =
      0x4D#8 :: 0x49#8 :: ([] ++ []) := by decide

theorem test_witness_InfoHasNoChecksumError :
    (∃ u t, exec (.rdmotor (code 0x4D 0x49)) (idle [.ok] [0x4D, 0x53, 1, 2, 3]) = .next u ∧
      moves 2 u = .next t ∧ t.done = true ∧ errorKind t.status = some .echo) ∧
    (∃ u t, exec (.rdrate (code 0x4C 0x49)) (idle [.fail] []) = .next u ∧
      moves 1 u = .next t ∧ t.done = true ∧ errorKind t.status = some .transport) :=
  ⟨⟨_, _, rfl, rfl, rfl, rfl⟩, ⟨_, _, rfl, rfl, rfl, rfl⟩⟩

theorem test_witness_FailedReadEndsTheOperation :
    (idle [.fail] [1, 2, 3]).phase = .idle ∧ (idle [.fail] [1, 2, 3]).answers = .fail :: [] ∧
    (Instr.rdscan .ports, OpSel.rdscan, recordLen (idle [] []).cfg, Status.scanRead) ∈
      [(Instr.rdhdr .ports, OpSel.rdhdr, 5, Status.readHeader),
       (.rdscan .ports, .rdscan, recordLen (idle [] []).cfg, .scanRead)] := by decide

/-- Rule R159 at its boundary: 14 can pass, 15 never does. -/
theorem test_witness_ScanChecksumPredicate :
    scanChkOk .l6 (bs [0xFE, 0, 0, 0, 0, 14]) = true ∧ 15 ≤ (0x0F#8 : Byte).toNat ∧
    scanChkOk .l5 (bs [0xFE, 0, 0, 0, 0x0E]) = true ∧ (0x0F#8 : Byte).toNat % 16 = 15 := by decide

theorem test_witness_ScanValidityNeedsBoth :
    scanS1 (bs [0xAC, 0x12, 0x34, 0x12, 0x90, 0x0E]) = 0#1 ∧
    scanS2 (bs [0xAF, 0x12, 0x34, 0x12, 0x90, 0x02]) = 1#1 := by decide

/-- A nibble changed from 0 to 15 (rule R172 (e)). -/
theorem test_witness_ScanChecksumLaws :
    nibbleSum (bs [0xAD, 0x12, 0x30, 0x12, 0x90]) % 15 =
      nibbleSum (bs [0xAD, 0x12, 0x3F, 0x12, 0x90]) % 15 ∧
    bs [0xAD, 0x12, 0x30, 0x12, 0x90] ≠ bs [0xAD, 0x12, 0x3F, 0x12, 0x90] := by decide

/-- A record at offset 0, and one at offset MAX_SHIFTS. -/
theorem test_witness_RdscanReturnsTheFirstValidWindow :
    (idle [.ok] [0xAD, 0x12, 0x34, 0x12, 0x90, 0]).answers = okAnswers (0 + 1) ++ [] ∧
    validAt (cfgOf .l6 2) (bs [0xAD, 0x12, 0x34, 0x12, 0x90, 0]) 0 = true ∧
    (idle [.ok, .ok, .ok] [0, 0, 0xAD, 0x12, 0x34, 0x12, 0x90, 0]).answers =
      okAnswers (2 + 1) ++ [] ∧
    recordLen (cfgOf .l6 2) + 2 ≤ (bs [0, 0, 0xAD, 0x12, 0x34, 0x12, 0x90, 0]).length ∧
    2 ≤ (cfgOf .l6 2).maxShifts ∧
    (∀ j < 2, validAt (cfgOf .l6 2) (bs [0, 0, 0xAD, 0x12, 0x34, 0x12, 0x90, 0]) j = false) ∧
    validAt (cfgOf .l6 2) (bs [0, 0, 0xAD, 0x12, 0x34, 0x12, 0x90, 0]) 2 = true := by decide

/-- With a bound of 2, and with a bound of 0 (V42-12). -/
theorem test_witness_RdscanStopsAtTheBound :
    (idle [.ok, .ok, .ok] (List.replicate 8 0)).answers = okAnswers (2 + 1) ++ [] ∧
    recordLen (cfgOf .l6 2) + 2 ≤ (bs (List.replicate 8 0)).length ∧
    (∀ j ≤ 2, validAt (cfgOf .l6 2) (bs (List.replicate 8 0)) j = false) ∧
    (at_ .l6 0 [.ok] [0x5A, 0xAD, 0x12, 0x34, 0x12, 0x90]).answers = okAnswers (0 + 1) ++ [] ∧
    (∀ j ≤ 0, validAt (cfgOf .l6 0) (bs [0x5A, 0xAD, 0x12, 0x34, 0x12, 0x90]) j = false) := by
  decide

/-- The first refill fails, and the last one the bound permits. -/
theorem test_witness_RdscanRefillFailureEndsIt :
    (idle [.ok, .fail] (List.replicate 6 0)).answers = okAnswers (0 + 1) ++ .fail :: [] ∧
    (idle [.ok, .ok, .fail] (List.replicate 7 0)).answers = okAnswers (1 + 1) ++ .fail :: [] ∧
    recordLen (cfgOf .l6 2) + 1 ≤ (bs (List.replicate 7 0)).length ∧
    1 < (cfgOf .l6 2).maxShifts ∧
    (∀ j ≤ 1, validAt (cfgOf .l6 2) (bs (List.replicate 7 0)) j = false) := by decide

/-- No shift, and as many as the bound permits. -/
theorem test_witness_WindowAfterShiftsIsTheStreamAtOffset :
    (idle [.ok] (List.replicate 6 0)).answers = okAnswers (0 + 1) ++ [] ∧
    (idle [.ok, .ok, .ok] (List.replicate 8 0)).answers = okAnswers (2 + 1) ++ [] ∧
    recordLen (cfgOf .l6 2) + 2 ≤ (bs (List.replicate 8 0)).length ∧
    2 ≤ (cfgOf .l6 2).maxShifts ∧
    (∀ j < 2, validAt (cfgOf .l6 2) (bs (List.replicate 8 0)) j = false) := by decide

/-- S3: the garbage byte 5A before record A. -/
theorem test_witness_OneGarbageByteCostsOneShift :
    (idle [.ok, .ok] [0x5A, 0xAD, 0x12, 0x34, 0x12, 0x90, 0, 0x19]).inbound =
      0x5A#8 :: (bs [0xAD, 0x12, 0x34, 0x12, 0x90, 0] ++ bs [0x19]) ∧
    (bs [0xAD, 0x12, 0x34, 0x12, 0x90, 0]).length = recordLen (cfgOf .l6 2) ∧
    1 ≤ (cfgOf .l6 2).maxShifts ∧
    scanValid .l6 (bs [0xAD, 0x12, 0x34, 0x12, 0x90, 0]) = true ∧
    scanValid .l6 ((bs [0x5A, 0xAD, 0x12, 0x34, 0x12, 0x90, 0]).take 6) = false := by decide

theorem test_witness_SilentLineExhaustsTheBound :
    (idle [.ok, .ok, .ok] (List.replicate 9 0)).answers =
      okAnswers ((cfgOf .l6 2).maxShifts + 1) ∧
    (idle [.ok, .ok, .ok] (List.replicate 9 0)).inbound =
      List.replicate (recordLen (cfgOf .l6 2) + (cfgOf .l6 2).maxShifts + 1) 0x00#8 := by decide

theorem test_witness_AcceptedRecordIsValid :
    ∃ u t, exec (.rdscan .ports) (idle [.ok] [0xAD, 0x12, 0x34, 0x12, 0x90, 0]) = .next u ∧
      moves 2 u = .next t ∧ t.done = true ∧ t.status = .ok := ⟨_, _, rfl, rfl, rfl, rfl⟩

theorem test_witness_ScanFieldsReadBack :
    (cfgOf .l6 2).scanLayout = .l6 ∧ (cfgOf .l5 2).scanLayout = .l5 := by decide

/-- Operations that end: one that wrote, one whose second transaction failed, one with no failing answer.
They meet the hypotheses of OutcomesStayInTheTable, NoTransactionAfterAFailure, KindsStayDistinct,
TransactionCountIsBounded and ConsumedBytesLeaveTheStream. -/
theorem test_witness_every_operation :
    (∃ u t, exec (.bare 0x44#8 0x53#8) (idle [.ok] []) = .next u ∧ moves 1 u = .next t ∧
      t.done = true ∧ t.status = .ok ∧ t.answers = []) ∧
    (∃ u t, exec (.rdscan .ports) (idle [.ok, .fail] (List.replicate 6 0)) = .next u ∧
      moves 3 u = .next t ∧ t.done = true ∧ t.status = .scanRead ∧ t.answers = []) ∧
    (∃ u t, exec (.rdprm .ports) (idle [.ok] [1, 0, 0, 0, 0x30]) = .next u ∧
      moves 2 u = .next t ∧ t.done = true ∧ t.status = .paramCmd ∧
      Answer.fail ∉ (idle [.ok] [1, 0, 0, 0, 0x30]).answers) :=
  ⟨⟨_, _, rfl, rfl, rfl, rfl, rfl⟩, ⟨_, _, rfl, rfl, rfl, rfl, rfl⟩,
    ⟨_, _, rfl, rfl, rfl, rfl, by decide⟩⟩

theorem test_witness_KindsStayDistinct :
    errorKind .scanRead ≠ errorKind .scanBound ∧ message .scanRead = message .scanBound := by
  decide

theorem test_witness_OperationsNeverMixDirections :
    begins (.argpkt 0#8 0#8 0#8 0#8) = some .wrarg ∧ begins (.rdmotor .ports) = some .rdmotor ∧
    OpSel.rdmotor ≠ .wrcmd ∧ OpSel.rdmotor ≠ .wrarg := by decide

theorem test_witness_AnsweredOperationsFinish :
    (idle [.ok, .ok, .ok] (List.replicate 8 0)).cfg.maxShifts + 1 ≤
      (idle [.ok, .ok, .ok] (List.replicate 8 0)).answers.length ∧
    bufLen (cfgOf .l6 2) + 2 ≤ (bs (List.replicate 8 0)).length := by decide

theorem test_witness_CodeConstantsSetTheHostOperand :
    (Instr.resetDevice, 0x52#8, 0x52#8) ∈
      [(Instr.dataAcquisitionStart, 0x44#8, 0x53#8), (.resetDevice, 0x52#8, 0x52#8)] := by decide

theorem test_witness_OutboundPacketsAreWrittenByTheirOperation :
    (idle [.ok] []).phase = .idle ∧ (idle [.ok] []).answers = .ok :: [] := by decide

theorem test_witness_CommandRoundTrip :
    (idle [.ok, .ok] []).phase = .idle ∧ (idle [.ok, .ok] []).answers = okAnswers 2 ∧
    (idle [.ok, .ok] []).inbound = [] ∧ (idle [.ok, .ok] []).skip = 0 ∧
    (0x6B#8 : Byte).toNat = hdrChk 0x7A#8 0x01#8 := by decide

/-- A reset of an idle framer, of one in CHECK whose turn the host has, and of one whose transaction is
outstanding in WRITE (both packets), FILL and REFILL, with and without a settled answer. -/
theorem test_witness_ResetInputAbandonsTheOperation :
    nextAgent { idle [] [] with program := [.reset] } = some .host ∧
    nextAgent { waiting with phase := .check, turns := [.host], program := [.reset] } =
      some .host ∧
    (nextAgent writing = some .host ∧ writing.phase = .write ∧ writing.opsel = .wrcmd) ∧
    (nextAgent { writing with opsel := .wrarg } = some .host) ∧
    nextAgent { waiting with answers := [.ok], program := [.reset] } = some .host ∧
    (waiting.phase = .fill ∧ readLen waiting.cfg waiting.opsel = some 6) ∧
    nextAgent { waiting with phase := .refill, turns := [.host], answers := [.fail]
                             program := [.reset] } = some .host := by decide

theorem test_witness_ResReadableExactlyAfterASuccessfulRead :
    Sound accepted_ ∧ hostReadRes accepted_ = .next (bs [0x44, 0x53, 0x30, 0x30, 0x50]) ∧
    Sound waiting ∧ (∀ w, hostReadRes waiting ≠ .next w) :=
  ⟨test_accepted_sound, rfl, test_waiting_sound, by intro w h; cases h⟩

/-- The message after RDSCAN's bound error, and none before DONE nor after a success. -/
theorem test_witness_StatusTable :
    hostReadMessage { idle [] [] with done := true, status := .scanBound } =
      .next "invalid scan response commands" ∧
    waiting.done = false ∧ accepted_.status = .ok := ⟨rfl, rfl, rfl⟩

end Sys2Proof.Tests
end

section
/-! The Header/Param Response Decoder (rules R140 to R151): what a FILL move comes to, what RDHDR and
RDPRM end with, and the statements on their checks. -/

namespace Sys2Proof.Machine

/-! ### The FILL move with its answer there -/

/-- A FILL whose read failed ends the operation. -/
theorem fillMove_fail {n : Nat} {err : Status} {k : State → State} {s : State} {rest : List Answer}
    (ha : s.answers = .fail :: rest) : fillMove n err k s = finish err (failedRead n s) := by
  simp [fillMove, tRead_fail ha]

/-- A FILL whose read succeeded puts the packet in BUF, to be checked next. -/
theorem fillMove_ok {err : Status} {k : State → State} {s : State} {rest : List Answer}
    {w more : List Byte} (ha : s.answers = .ok :: rest) (hin : s.inbound = w ++ more) :
    fillMove w.length err k s = k (toPhase .check (setBuf w (takenRead w.length s))) := by
  have hlen : w.length ≤ s.inbound.length := by simp [hin]
  simp [fillMove, tRead_ok ha hlen, hin]

/-! ### The header checksum (rules R141, R142) -/

/-- The checksum in modular form: the six low bits are the remainder by 64. -/
theorem hdrChk_eq_mod (a b : Byte) : hdrChk a b = (a.toNat + b.toNat) % 64 + 48 :=
  congrArg (· + 48) (Nat.and_two_pow_sub_one_eq_mod (a.toNat + b.toNat) 6)

/-- The header checksum is a byte from 48 to 111. -/
theorem hdrChk_range (a b : Byte) : 48 ≤ hdrChk a b ∧ hdrChk a b ≤ 111 := by
  rw [hdrChk_eq_mod]
  omega

/-- The sum of two bytes is at most 510. -/
theorem byte_sum_le (a b : Byte) : a.toNat + b.toNat ≤ 510 := by
  have ha := a.isLt
  have hb := b.isLt
  omega

/-- The predicate on a packet of five bytes. -/
theorem hdrChkOk_iff (c d p q k : Byte) :
    hdrChkOk [c, d, p, q, k] = true ↔ k.toNat = hdrChk p q :=
  beq_iff_eq.trans eq_comm

/-- The echo of a packet fails when either of its two bytes differs. -/
theorem echoOk_eq_false {c d c0 c1 : Byte} (h : c ≠ c0 ∨ d ≠ c1) (tail : List Byte) :
    echoOk (c :: d :: tail) c0 c1 = false := by
  simpa [echoOk, byteAt, imp_iff_not_or] using h

/-! ### The order of the checks (rule R144) -/

/-- What the CHECK of a response ends with: the checksum is tested before the echo. -/
def responseStatus (checksumError echoError : Status) (w : List Byte) (c0 c1 : Byte) : Status :=
  if ¬ hdrChkOk w = true then checksumError
  else if ¬ echoOk w c0 c1 = true then echoError
  else .ok

/-- The checks read the five bytes of the packet and nothing above them in BUF. -/
theorem responseStatus_append (checksumError echoError : Status) (c d p q k c0 c1 : Byte)
    (above : List Byte) :
    responseStatus checksumError echoError ([c, d, p, q, k] ++ above) c0 c1 =
      responseStatus checksumError echoError [c, d, p, q, k] c0 c1 := rfl

/-- A right checksum leaves the decision to the echo. -/
theorem responseStatus_wrongEcho {checksumError echoError : Status} {w : List Byte} {c0 c1 : Byte}
    (hchk : hdrChkOk w = true) (hecho : echoOk w c0 c1 = false) :
    responseStatus checksumError echoError w c0 c1 = echoError := by
  simp [responseStatus, hchk, hecho]

/-- CHECK of RDHDR is the end with the status that the two checks give. -/
theorem rdhdrCheck_eq (s : State) :
    rdhdrCheck s =
      finish (responseStatus .headerChecksum .headerCmd s.buf s.code0 s.code1) s := by
  unfold rdhdrCheck responseStatus
  cases hdrChkOk s.buf <;> cases echoOk s.buf s.code0 s.code1 <;> rfl

/-- CHECK of RDPRM is the end with the status that the two checks give. -/
theorem rdprmCheck_eq (s : State) :
    rdprmCheck s =
      finish (responseStatus .paramChecksum .paramCmd s.buf s.code0 s.code1) s := by
  unfold rdprmCheck responseStatus
  cases hdrChkOk s.buf <;> cases echoOk s.buf s.code0 s.code1 <;> rfl

/-! ### RDHDR and RDPRM as one decoder with two sets of errors (rules R145, R146) -/

/-- The two response decoders: the instruction, its operation, and its read, checksum and echo errors. -/
inductive ResponseDecoder (x : Operands) : Instr → OpSel → Status → Status → Status → Prop
  | rdhdr : ResponseDecoder x (.rdhdr x) .rdhdr .readHeader .headerChecksum .headerCmd
  | rdprm : ResponseDecoder x (.rdprm x) .rdprm .readParam .paramChecksum .paramCmd

section
variable {x : Operands} {s : State} {i : Instr} {op : OpSel}
  {readError checksumError echoError : Status}

/-- On an idle framer the instruction latches its operands. -/
theorem ResponseDecoder.exec_eq
    (hi : ResponseDecoder x i op readError checksumError echoError) (hp : s.phase = .idle) :
    exec i s = .next (latch op x s) := by
  cases hi with
  | rdhdr => exact startThen_idle hp
  | rdprm => exact startThen_idle hp

/-- The move after START is the FILL of five bytes. -/
theorem ResponseDecoder.resume_latch
    (hi : ResponseDecoder x i op readError checksumError echoError) :
    resume (latch op x s) = .next (fillMove 5 readError id (latch op x s)) := by
  cases hi with
  | rdhdr => rfl
  | rdprm => rfl

/-- The move in CHECK is the end with the status that the two checks give. -/
theorem ResponseDecoder.resume_check
    (hi : ResponseDecoder x i op readError checksumError echoError)
    (hp : s.phase = .check) (ho : s.opsel = op) :
    resume s =
      .next (finish (responseStatus checksumError echoError s.buf s.code0 s.code1) s) := by
  cases hi with
  | rdhdr => simp only [resume, hp, ho, rdhdrCheck_eq]
  | rdprm => simp only [resume, hp, ho, rdprmCheck_eq]

/-- After a failed read the operation has ended and neither check is made. -/
theorem ResponseDecoder.moves_fail
    (hi : ResponseDecoder x i op readError checksumError echoError) {rest : List Answer}
    (ha : s.answers = .fail :: rest) :
    moves 1 (latch op x s) = .next (finish readError (failedRead 5 (latch op x s))) := by
  rw [moves_succ_of hi.resume_latch, fillMove_fail (by simpa using ha), moves_zero]

/-- After a read that succeeded the operation ends with the status that the checks of the packet
give. -/
theorem ResponseDecoder.moves_ok
    (hi : ResponseDecoder x i op readError checksumError echoError) {rest : List Answer}
    {c d p q k : Byte} {more : List Byte}
    (ha : s.answers = .ok :: rest) (hin : s.inbound = [c, d, p, q, k] ++ more) :
    moves 2 (latch op x s) = .next
      (finish
        (responseStatus checksumError echoError [c, d, p, q, k] (operandCode0 x s)
          (operandCode1 x s))
        (toPhase .check (setBuf [c, d, p, q, k] (takenRead 5 (latch op x s))))) := by
  have hfill : fillMove 5 readError id (latch op x s) =
      toPhase .check (setBuf [c, d, p, q, k] (takenRead 5 (latch op x s))) :=
    fillMove_ok (w := [c, d, p, q, k]) (rest := rest) (more := more) ha hin
  rw [moves_succ_of hi.resume_latch, hfill, moves_succ_of (hi.resume_check rfl rfl), moves_zero]
  simp only [toPhase_buf, toPhase_code0, toPhase_code1, setBuf_buf, setBuf_code0, setBuf_code1,
    takenRead_code0, takenRead_code1, latch_code0, latch_code1, responseStatus_append]

/-- A right checksum and a wrong echo end the decoder with its echo error. -/
theorem ResponseDecoder.wrongEcho
    (hi : ResponseDecoder x i op readError checksumError echoError) {rest : List Answer}
    {c d p q k : Byte} {more : List Byte} (hp : s.phase = .idle)
    (ha : s.answers = .ok :: rest) (hin : s.inbound = [c, d, p, q, k] ++ more)
    (hchk : hdrChkOk [c, d, p, q, k] = true)
    (hecho : c ≠ operandCode0 x s ∨ d ≠ operandCode1 x s) :
    ∃ u t, exec i s = .next u ∧ moves 2 u = .next t ∧ t.done = true ∧ t.status = echoError :=
  ⟨_, _, hi.exec_eq hp, hi.moves_ok ha hin, rfl,
    responseStatus_wrongEcho hchk (echoOk_eq_false hecho _)⟩

end

/-! ### The statements -/

/-- Settles O26, from the one ending that RDHDR and RDPRM have after each answer of the transport. -/
theorem responseChecksAreOrdered : Obligations.ResponseChecksAreOrdered := by
  intro x s i readError checksumError echoError hp hmem
  obtain ⟨op, hi⟩ : ∃ op, ResponseDecoder x i op readError checksumError echoError := by
    simp only [List.mem_cons, List.not_mem_nil, Prod.mk.injEq, or_false] at hmem
    obtain ⟨rfl, rfl, rfl, rfl⟩ | ⟨rfl, rfl, rfl, rfl⟩ := hmem
    · exact ⟨_, .rdhdr⟩
    · exact ⟨_, .rdprm⟩
  constructor
  · intro rest ha
    exact ⟨_, _, hi.exec_eq hp, hi.moves_fail ha, rfl, rfl⟩
  · intro rest c d p q k more ha hin
    exact ⟨_, _, hi.exec_eq hp, hi.moves_ok ha hin, rfl, rfl⟩

/-- Settles O27, once for both decoders: the checksum passes, so the echo decides. -/
theorem wrongEchoIsACommandError : Obligations.WrongEchoIsACommandError := by
  intro x s rest c d p q k more hp ha hin hchk hecho
  exact ⟨ResponseDecoder.rdhdr.wrongEcho hp ha hin hchk hecho,
    ResponseDecoder.rdprm.wrongEcho hp ha hin hchk hecho⟩

/-- Settles O21, from the modular form of the six low bits. -/
theorem headerChecksumFunction : Obligations.HeaderChecksumFunction := fun a b =>
  ⟨rfl, hdrChk_eq_mod a b, byte_sum_le a b, hdrChk_range a b⟩

/-- Settles O22: byte 4 of the packet is the one compared, as a whole. -/
theorem headerChecksumPredicate : Obligations.HeaderChecksumPredicate := hdrChkOk_iff

end Sys2Proof.Machine
end

section
/-! The checks of a scan window (rules R157 to R161): the checksum, the sync bits and their conjunction,
and the statements on them. -/

namespace Sys2Proof.Machine

/-! ### The scan checksum (rules R158, R159) -/

/-- A remainder by 15 is at most 14. -/
theorem scanChk_le (w : List Byte) : scanChk w ≤ 14 :=
  Nat.le_of_lt_succ (Nat.mod_lt (scanSum w) (by decide))

/-- The low nibble is the remainder by 16. -/
theorem loNibble_toNat (b : Byte) : (loNibble b).toNat = b.toNat % 16 :=
  BitVec.extractLsb'_toNat 0 4 b

/-- The predicate compares the computed checksum with the transmitted one of the layout. -/
theorem scanChkOk_iff (layout : ScanLayout) (w : List Byte) :
    scanChkOk layout w = true ↔ scanChk w = scanTxChk layout w :=
  beq_iff_eq

/-- A transmitted checksum beyond the range of the computed one never passes. -/
theorem scanChkOk_eq_false {layout : ScanLayout} {w : List Byte} (h : 15 ≤ scanTxChk layout w) :
    scanChkOk layout w = false := by
  have hle := scanChk_le w
  rw [Bool.eq_false_iff, Ne, scanChkOk_iff]
  omega

/-! ### The sync bits (rules R98, R160) -/

/-- The predicate is the two tests, one for each sync bit. -/
theorem scanSyncOk_iff (w : List Byte) :
    scanSyncOk w = true ↔ scanS1 w = 1#1 ∧ scanS2 w = 0#1 := by
  rw [scanSyncOk, Bool.and_eq_true, beq_iff_eq, beq_iff_eq]

/-- `s1` is bit 0 of the first byte. -/
theorem scanS1_toNat (b : Byte) (tail : List Byte) : (scanS1 (b :: tail)).toNat = b.toNat % 2 :=
  BitVec.extractLsb'_toNat 0 1 b

/-- `s2` is bit 1 of the first byte. -/
theorem scanS2_toNat (b : Byte) (tail : List Byte) : (scanS2 (b :: tail)).toNat = b.toNat / 2 % 2 := by
  rw [scanS2, BitVec.extractLsb'_toNat, Nat.shiftRight_eq_div_pow]
  rfl

/-- The two sync bits together are the first byte's remainder by 4. -/
theorem scanSyncOk_iff_mod (b : Byte) (tail : List Byte) :
    scanSyncOk (b :: tail) = true ↔ b.toNat % 4 = 1 := by
  rw [scanSyncOk_iff, ← BitVec.toNat_inj, ← BitVec.toNat_inj, scanS1_toNat, scanS2_toNat,
    BitVec.toNat_ofNat, BitVec.toNat_ofNat]
  omega

/-- The mask of the two low bits keeps the remainder by 4. -/
theorem and_three_toNat (b : Byte) : (b &&& 0x03#8).toNat = b.toNat % 4 :=
  (BitVec.toNat_and b 0x03#8).trans (Nat.and_two_pow_sub_one_eq_mod b.toNat 2)

/-! ### Validity (rule R161) -/

/-- A window is valid when both checks pass. -/
theorem scanValid_iff (layout : ScanLayout) (w : List Byte) :
    scanValid layout w = true ↔ scanChkOk layout w = true ∧ scanSyncOk w = true :=
  Bool.and_eq_true_iff

/-- Validity in terms of the transmitted checksum and the two sync bits. -/
theorem scanValid_iff_fields (layout : ScanLayout) (w : List Byte) :
    scanValid layout w = true ↔
      scanChk w = scanTxChk layout w ∧ scanS1 w = 1#1 ∧ scanS2 w = 0#1 := by
  rw [scanValid_iff, scanChkOk_iff, scanSyncOk_iff]

/-- A wrong sync bit rejects the window, whatever its checksum. -/
theorem scanValid_eq_false_of_sync {layout : ScanLayout} {w : List Byte}
    (h : scanS1 w = 0#1 ∨ scanS2 w = 1#1) : scanValid layout w = false := by
  rw [Bool.eq_false_iff, Ne, scanValid_iff_fields]
  rintro ⟨-, hs1, hs2⟩
  rw [hs1, hs2] at h
  exact absurd h (by decide)

/-- The whole first byte is a term of the sum (rule R158), so windows that differ there alone have
different sums. -/
theorem scanSum_cons_inj {b c : Byte} {tail : List Byte} :
    scanSum (b :: tail) = scanSum (c :: tail) ↔ b = c := by
  simp [scanSum, byteAt, BitVec.toNat_inj]

/-- Flipping any bits of the first byte changes the sum. -/
theorem scanSum_xor_ne {m : Byte} (hm : m ≠ 0#8) (b : Byte) (tail : List Byte) :
    scanSum ((b ^^^ m) :: tail) ≠ scanSum (b :: tail) := by
  rw [Ne, scanSum_cons_inj]
  intro h
  exact hm ((BitVec.xor_right_inj b).mp (h.trans BitVec.xor_zero.symm))

/-! ### The statements -/

/-- Settles O34: the two layouts differ only in the transmitted checksum, and the computed one is at
most 14. -/
theorem scanChecksumPredicate : Obligations.ScanChecksumPredicate := by
  intro b0 b1 b2 b3 b4 b5
  have hl5 : scanTxChk .l5 [b0, b1, b2, b3, b4] = b4.toNat % 16 := loNibble_toNat b4
  refine ⟨scanChkOk_iff _ _, fun h => scanChkOk_eq_false h, ?_, fun h => scanChkOk_eq_false ?_⟩
  · rw [scanChkOk_iff, hl5]
  · rw [hl5, h]

/-- Settles O35: each form of the test says that the first byte is 1 modulo 4. -/
theorem onlySyncPattern01Passes : Obligations.OnlySyncPattern01Passes := by
  intro b tail
  refine ⟨?_, scanSyncOk_iff _, scanSyncOk_iff_mod b tail⟩
  rw [scanSyncOk_iff_mod, ← and_three_toNat, ← BitVec.toNat_inj]
  rfl

/-- Settles O36: validity is the conjunction, and the sum holds the whole byte of the sync bits. -/
theorem scanValidityNeedsBoth : Obligations.ScanValidityNeedsBoth :=
  ⟨fun layout w =>
    ⟨scanValid_iff layout w, scanValid_iff_fields layout w, scanValid_eq_false_of_sync⟩,
   fun b tail => ⟨scanSum_xor_ne (by decide) b tail, scanSum_xor_ne (by decide) b tail⟩⟩

end Sys2Proof.Machine
end

section
/-! The Info Response Decoders (rules R190 to R196): the one check of RDMOTOR and RDRATE, what they can
have ended with after any number of moves, and the statement on the kinds of their errors. -/

namespace Sys2Proof.Machine

/-! ### The echo of a packet in BUF (rule R143) -/

/-- The first bytes of a packet put in BUF are those of the stream. -/
theorem byteAt_take_append {i n : Nat} {w : List Byte} (hi : i < n) (hn : n ≤ w.length)
    (above : List Byte) : byteAt (w.take n ++ above) i = byteAt w i := by
  have hlen : i < (w.take n).length := by simp only [List.length_take]; omega
  simp only [byteAt, List.getD_eq_getElem?_getD, List.getElem?_append_left hlen,
    List.getElem?_take_of_lt hi]

/-- The echo of a packet of two bytes or more is that of the stream it was taken from. -/
theorem echoOk_take_append {n : Nat} {w : List Byte} (h2 : 2 ≤ n) (hn : n ≤ w.length)
    (above : List Byte) (c0 c1 : Byte) : echoOk (w.take n ++ above) c0 c1 = echoOk w c0 c1 := by
  have h0 := byteAt_take_append (i := 0) (by omega) hn above
  have h1 := byteAt_take_append (i := 1) (by omega) hn above
  rw [echoOk, h0, h1, echoOk]

/-! ### The one check (rules R192, R193, R195) -/

/-- What the CHECK of an info packet ends with: the echo alone is tested. -/
def infoStatus (echoError : Status) (w : List Byte) (c0 c1 : Byte) : Status :=
  if echoOk w c0 c1 = true then .ok else echoError

/-- CHECK of RDMOTOR is the end with the status that the echo gives. -/
theorem rdmotorCheck_eq (s : State) :
    rdmotorCheck s = finish (infoStatus .motorCmd s.buf s.code0 s.code1) s := by
  unfold rdmotorCheck infoStatus
  cases echoOk s.buf s.code0 s.code1 <;> rfl

/-- CHECK of RDRATE is the end with the status that the echo gives. -/
theorem rdrateCheck_eq (s : State) :
    rdrateCheck s = finish (infoStatus .rateCmd s.buf s.code0 s.code1) s := by
  unfold rdrateCheck infoStatus
  cases echoOk s.buf s.code0 s.code1 <;> rfl

/-! ### RDMOTOR and RDRATE as one decoder with two lengths and two sets of errors -/

/-- The two info decoders: the instruction, its operation, its packet length, and its read and echo
errors. -/
inductive InfoDecoder (x : Operands) : Instr → OpSel → (Config → Nat) → Status → Status → Prop
  | rdmotor : InfoDecoder x (.rdmotor x) .rdmotor motorInfoLen .readMotor .motorCmd
  | rdrate : InfoDecoder x (.rdrate x) .rdrate rateInfoLen .readRate .rateCmd

section
variable {x : Operands} {s : State} {i : Instr} {op : OpSel} {len : Config → Nat}
  {readError echoError : Status}

/-- On an idle framer the instruction latches its operands. -/
theorem InfoDecoder.exec_eq (hi : InfoDecoder x i op len readError echoError)
    (hp : s.phase = .idle) : exec i s = .next (latch op x s) := by
  cases hi with
  | rdmotor => exact startThen_idle hp
  | rdrate => exact startThen_idle hp

/-- An info packet has room for its two echo bytes (rules R97, R196). -/
theorem InfoDecoder.two_le_len (hi : InfoDecoder x i op len readError echoError) (cfg : Config) :
    2 ≤ len cfg := by
  cases hi with
  | rdmotor => exact Nat.le_add_left 2 cfg.motorPayloadLen
  | rdrate => exact Nat.le_add_left 2 cfg.ratePayloadLen

/-- The move after START is the FILL of the whole packet. -/
theorem InfoDecoder.resume_latch (hi : InfoDecoder x i op len readError echoError) :
    resume (latch op x s) = .next (fillMove (len s.cfg) readError id (latch op x s)) := by
  cases hi with
  | rdmotor => rfl
  | rdrate => rfl

/-- The move in CHECK is the end with the status that the echo gives. -/
theorem InfoDecoder.resume_check (hi : InfoDecoder x i op len readError echoError)
    (hp : s.phase = .check) (ho : s.opsel = op) :
    resume s = .next (finish (infoStatus echoError s.buf s.code0 s.code1) s) := by
  cases hi with
  | rdmotor => simp only [resume, hp, ho, rdmotorCheck_eq]
  | rdrate => simp only [resume, hp, ho, rdrateCheck_eq]

/-- A failed read is a transport error and a wrong echo an echo error. -/
theorem InfoDecoder.errorKinds (hi : InfoDecoder x i op len readError echoError) :
    errorKind readError = some .transport ∧ errorKind echoError = some .echo := by
  cases hi with
  | rdmotor => exact ⟨rfl, rfl⟩
  | rdrate => exact ⟨rfl, rfl⟩

/-- From CHECK the operation has ended only with the status that the echo gives. -/
theorem InfoDecoder.status_from_check (hi : InfoDecoder x i op len readError echoError)
    {n : Nat} {t : State} (hp : s.phase = .check) (ho : s.opsel = op) (hd : s.done = false)
    (hm : moves n s = .next t) (ht : t.done = true) :
    t.status = infoStatus echoError s.buf s.code0 s.code1 := by
  cases n with
  | zero =>
    cases hm
    simp [hd] at ht
  | succ n =>
    rw [moves_succ_of (hi.resume_check hp ho), moves_idle rfl] at hm
    cases hm
    rfl

/-- An info operation has ended with its read error when the read failed, and with what the echo of the
stream's first bytes gives when it succeeded; without an answer it has not ended. -/
theorem InfoDecoder.status_of_done (hi : InfoDecoder x i op len readError echoError)
    {n : Nat} {t : State} (hm : moves n (latch op x s) = .next t) (ht : t.done = true) :
    (s.answers.head? = some .fail ∧ t.status = readError) ∨
    (s.answers.head? = some .ok ∧
      t.status = infoStatus echoError s.inbound (operandCode0 x s) (operandCode1 x s)) := by
  cases n with
  | zero =>
    cases hm
    simp at ht
  | succ n =>
    rw [moves_succ_of hi.resume_latch] at hm
    obtain ⟨-, hwait⟩ | ⟨ha, hfail⟩ | ⟨ha, hlen, hfill⟩ :=
      fillMove_cases (len s.cfg) readError id (latch op x s)
    · rw [hwait, moves_fixed (hi.resume_latch.trans (congrArg _ hwait))] at hm
      cases hm
      simp at ht
    · rw [hfail, moves_idle rfl] at hm
      cases hm
      exact .inl ⟨ha, rfl⟩
    · rw [hfill] at hm
      have hecho := echoOk_take_append (w := s.inbound) (hi.two_le_len s.cfg) hlen
      exact .inr ⟨ha, by
        simpa [infoStatus, hecho] using hi.status_from_check rfl rfl rfl hm ht⟩

/-- The kind of error an info operation has ended with. -/
theorem InfoDecoder.errorKind_of_done (hi : InfoDecoder x i op len readError echoError)
    {n : Nat} {t : State} (hm : moves n (latch op x s) = .next t) (ht : t.done = true) :
    errorKind t.status ≠ some .checksum ∧
    (errorKind t.status = some .transport ↔ s.answers.head? = some .fail) ∧
    (errorKind t.status = some .echo ↔
      s.answers.head? = some .ok ∧
        echoOk s.inbound (operandCode0 x s) (operandCode1 x s) = false) := by
  obtain ⟨hread, hecho⟩ := hi.errorKinds
  obtain ⟨ha, hst⟩ | ⟨ha, hst⟩ := hi.status_of_done hm ht
  · simp [ha, hst, hread]
  · cases he : echoOk s.inbound (operandCode0 x s) (operandCode1 x s) with
    | false => simp [ha, hst, infoStatus, he, hecho]
    | true => simp [ha, hst, infoStatus, he, errorKind]

end

/-! ### The statement -/

/-- Settles O31, once for both decoders: of the two ways to end, one is the failed read and the other is
decided by the echo. -/
theorem infoHasNoChecksumError : Obligations.InfoHasNoChecksumError := by
  intro x s u t n hp hexec hm ht
  obtain hexec | hexec := hexec
  · cases (InfoDecoder.rdmotor.exec_eq hp).symm.trans hexec
    exact InfoDecoder.rdmotor.errorKind_of_done hm ht
  · cases (InfoDecoder.rdrate.exec_eq hp).symm.trans hexec
    exact InfoDecoder.rdrate.errorKind_of_done hm ht

end Sys2Proof.Machine
end

section
/-! Errors (rules R216, R227, R230): what START and every move of the framer do with the transport's
answers and with the kind of STATUS, and the statements on transport errors. -/

namespace Sys2Proof.Machine

/-! ### START of every operation (rules R40, R110) -/

/-- What an operation does between its latching and its first transaction: the writing ones serialize
their packet (rules R34, R131, R132). -/
def prepare : OpSel → State → State
  | .wrcmd => wrcmdSerialize
  | .wrarg => wrargSerialize
  | _ => id

/-- An instruction that begins an operation is the START of that operation with some operands. -/
theorem exec_begins {i : Instr} {op : OpSel} (h : begins i = some op) (s : State) :
    ∃ x, exec i s = startThen op x (prepare op) s :=
  match i, h with
  | .wrcmd x, rfl => ⟨x, rfl⟩
  | .wrarg x, rfl => ⟨x, rfl⟩
  | .rdhdr x, rfl => ⟨x, rfl⟩
  | .rdprm x, rfl => ⟨x, rfl⟩
  | .rdscan x, rfl => ⟨x, rfl⟩
  | .rdmotor x, rfl => ⟨x, rfl⟩
  | .rdrate x, rfl => ⟨x, rfl⟩
  | .bare c d, rfl => ⟨.given c d s.hostArg0 s.hostArg1, rfl⟩
  | .argpkt c d a b, rfl => ⟨.given c d a b, rfl⟩

/-- When an instruction that begins an operation answers a next state. -/
theorem exec_begins_next {i : Instr} {op : OpSel} {s u : State} (h : begins i = some op)
    (hexec : exec i s = .next u) : s.phase = .idle ∧ ∃ x, u = prepare op (latch op x s) := by
  obtain ⟨x, hx⟩ := exec_begins h s
  obtain ⟨hp, hu⟩ := startThen_next (hx.symm.trans hexec)
  exact ⟨hp, x, hu⟩

@[simp] theorem prepare_answers (op : OpSel) (s : State) : (prepare op s).answers = s.answers := by
  cases op <;> rfl

@[simp] theorem prepare_status (op : OpSel) (s : State) : (prepare op s).status = s.status := by
  cases op <;> rfl

/-! ### The kind of a check's outcome (rules R216, R227) -/

/-- The status is the error of a failed transaction (rule R216, kind (a)). -/
abbrev IsTransportError (st : Status) : Prop := errorKind st = some .transport

/-- The checks of a response give one of their own two errors or OK, so no transport error. -/
theorem responseStatus_not_transport {checksumError echoError : Status}
    (hc : ¬ IsTransportError checksumError) (he : ¬ IsTransportError echoError)
    (w : List Byte) (c0 c1 : Byte) :
    ¬ IsTransportError (responseStatus checksumError echoError w c0 c1) := by
  unfold responseStatus
  split_ifs
  · decide
  · exact he
  · exact hc

/-- The check of an info packet gives its echo error or OK, so no transport error. -/
theorem infoStatus_not_transport {echoError : Status} (he : ¬ IsTransportError echoError)
    (w : List Byte) (c0 c1 : Byte) : ¬ IsTransportError (infoStatus echoError w c0 c1) := by
  unfold infoStatus
  split_ifs
  · decide
  · exact he

/-! ### What a move does with the answers -/

/-- A move uses no answer or an `Ok`, and then takes no transport error, or it uses a `Fail`, and then
ends the operation with a transport error (rules R227, R230). -/
inductive MoveUses (s t : State) : Prop
  | nothing (answers : t.answers = s.answers)
      (kind : IsTransportError t.status → IsTransportError s.status)
  | ok (head : s.answers.head? = some .ok) (answers : t.answers = s.answers.tail)
      (kind : IsTransportError t.status → IsTransportError s.status)
  | fail (head : s.answers.head? = some .fail) (answers : t.answers = s.answers.tail)
      (kind : IsTransportError t.status) (done : t.done = true) (idle : t.phase = .idle)

/-- A move that waits uses nothing. -/
theorem MoveUses.refl (s : State) : MoveUses s s := .nothing rfl id

/-- An end that is no transport error uses nothing. -/
theorem MoveUses.of_finish {s t : State} {st : Status} (ht : t = finish st s)
    (h : ¬ IsTransportError st) : MoveUses s t := by
  subst ht
  exact .nothing rfl (absurd · h)

/-- A write uses one answer, once it is there. -/
theorem writeMove_uses {err : Status} (herr : IsTransportError err) (pkt : List Byte) (s : State) :
    MoveUses s (writeMove pkt err s) := by
  obtain ⟨-, h⟩ | ⟨ha, h⟩ | ⟨ha, h⟩ := writeMove_cases pkt err s <;> rw [h]
  · exact .refl s
  · exact .fail ha rfl herr rfl rfl
  · exact .ok ha rfl nofun

/-- A read of a whole packet uses one answer, once it is there. -/
theorem fillMove_uses {err : Status} {k : State → State} (herr : IsTransportError err)
    (hk : ∀ v, (k v).answers = v.answers ∧ (k v).status = v.status) (n : Nat) (s : State) :
    MoveUses s (fillMove n err k s) := by
  obtain ⟨-, h⟩ | ⟨ha, h⟩ | ⟨ha, -, h⟩ := fillMove_cases n err k s <;> rw [h]
  · exact .refl s
  · exact .fail ha rfl herr rfl rfl
  · obtain ⟨hans, hst⟩ := hk (toPhase .check (setBuf (s.inbound.take n) (takenRead n s)))
    exact .ok ha hans (hst ▸ id)

/-- A refill uses one answer, once it is there. -/
theorem rdscanRefill_uses (s : State) : MoveUses s (rdscanRefill s) := by
  obtain ⟨-, h⟩ | ⟨ha, h⟩ | ⟨ha, -, h⟩ := rdscanRefill_cases s <;> rw [h]
  · exact .refl s
  · exact .fail ha rfl rfl rfl rfl
  · exact .ok ha rfl id

/-- The check of a scan window uses nothing. -/
theorem rdscanCheck_uses (s : State) : MoveUses s (rdscanCheck s) := by
  obtain ⟨-, h⟩ | ⟨-, -, h⟩ | ⟨-, -, h⟩ := rdscanCheck_cases s <;> rw [h]
  · exact .of_finish rfl (by decide)
  · exact .of_finish rfl (by decide)
  · exact .nothing rfl id

/-- Every move of the framer uses at most one answer, and takes a transport error exactly for a
`Fail`. -/
theorem resume_uses {s t : State} (h : resume s = .next t) : MoveUses s t := by
  by_cases hp : s.phase = .idle
  · cases (resume_idle hp).symm.trans h
    exact .refl s
  obtain ⟨-, hwrite⟩ | ⟨-, hfill⟩ | ⟨-, hcheck⟩ | ⟨-, -, rfl⟩ := resume_next h hp
  · obtain ⟨-, rfl⟩ | ⟨-, rfl⟩ := hwrite
    · exact writeMove_uses (by decide) _ s
    · exact writeMove_uses (by decide) _ s
  · have keep (v : State) : (id v).answers = v.answers ∧ (id v).status = v.status := ⟨rfl, rfl⟩
    obtain ⟨-, rfl⟩ | ⟨-, rfl⟩ | ⟨-, rfl⟩ | ⟨-, rfl⟩ | ⟨-, rfl⟩ := hfill
    · exact fillMove_uses (by decide) keep _ s
    · exact fillMove_uses (by decide) keep _ s
    · exact fillMove_uses (k := clearShifts) (by decide) (fun _ => ⟨rfl, rfl⟩) _ s
    · exact fillMove_uses (by decide) keep _ s
    · exact fillMove_uses (by decide) keep _ s
  · obtain ⟨-, rfl⟩ | ⟨-, rfl⟩ | ⟨-, rfl⟩ | ⟨-, rfl⟩ | ⟨-, rfl⟩ := hcheck
    · exact .of_finish (rdhdrCheck_eq s) (responseStatus_not_transport (by decide) (by decide) _ _ _)
    · exact .of_finish (rdprmCheck_eq s) (responseStatus_not_transport (by decide) (by decide) _ _ _)
    · exact rdscanCheck_uses s
    · exact .of_finish (rdmotorCheck_eq s) (infoStatus_not_transport (by decide) _ _ _)
    · exact .of_finish (rdrateCheck_eq s) (infoStatus_not_transport (by decide) _ _ _)
  · exact rdscanRefill_uses s

/-! ### The answers an operation has used -/

/-- Of the answers there at START an operation has used only `Ok`s and has no transport error, or a
`Fail` was the last it used and it has ended with a transport error. -/
inductive Ledger (answers : List Answer) (s : State) : Prop
  | unfailed (used : List Answer) (split : answers = used ++ s.answers) (noFail : .fail ∉ used)
      (kind : ¬ IsTransportError s.status)
  | failed (before : List Answer) (split : answers = before ++ [.fail] ++ s.answers)
      (noFail : .fail ∉ before) (kind : IsTransportError s.status) (done : s.done = true)
      (idle : s.phase = .idle)

/-- After START nothing is used. -/
theorem Ledger.start (op : OpSel) (x : Operands) (s : State) :
    Ledger s.answers (prepare op (latch op x s)) :=
  .unfailed [] (by simp) nofun (by simp [errorKind])

/-- Every move keeps the ledger: one that uses a `Fail` ends the operation, and an ended one has no
move left. -/
theorem Ledger.keep {answers : List Answer} (s t : State) (hl : Ledger answers s)
    (h : resume s = .next t) : Ledger answers t := by
  cases hl with
  | failed before split noFail kind done idle =>
    cases (resume_idle idle).symm.trans h
    exact .failed before split noFail kind done idle
  | unfailed used split noFail kind =>
    cases resume_uses h with
    | nothing ht hk => exact .unfailed used (ht ▸ split) noFail (kind ∘ hk)
    | ok hh ht hk =>
      exact .unfailed (used ++ [.ok])
        (by rw [split, List.append_assoc, ht, List.singleton_append, List.cons_head?_tail hh])
        (by simp [noFail]) (kind ∘ hk)
    | fail hh ht hk hd hi =>
      exact .failed used
        (by rw [split, List.append_assoc, ht, List.singleton_append, List.cons_head?_tail hh])
        noFail hk hd hi

/-- The ledger holds after START and any number of moves. -/
theorem ledger_of_moves {i : Instr} {op : OpSel} {s u t : State} {n : Nat}
    (hb : begins i = some op) (hexec : exec i s = .next u) (hm : moves n u = .next t) :
    Ledger s.answers t := by
  obtain ⟨-, x, rfl⟩ := exec_begins_next hb hexec
  exact moves_induct Ledger.keep (Ledger.start op x s) hm

/-! ### Messages (rules R217, R218, R227) -/

/-- RDSCAN's two errors are the only ones that share a message. -/
theorem eq_or_scan_of_message_eq {a b : Status} (h : message a = message b) :
    a = b ∨ (a = .scanRead ∧ b = .scanBound) ∨ (a = .scanBound ∧ b = .scanRead) := by
  cases a <;> cases b <;> simp [message] at h ⊢

/-! ### The statements -/

/-- Settles O47: by the ledger, a `Fail` among the used answers is the last of them and has ended the
operation. -/
theorem noTransactionAfterAFailure : Obligations.NoTransactionAfterAFailure := by
  intro i op s u t n hb hexec hm
  cases ledger_of_moves hb hexec hm with
  | unfailed used split noFail kind => exact ⟨used, split, (absurd · noFail)⟩
  | failed before split noFail kind done idle =>
    exact ⟨before ++ [.fail], split, fun _ => ⟨done, kind, before, rfl, noFail⟩⟩

/-- Settles O48: each side of the ledger has both or neither of a used `Fail` and a transport error,
and statuses of different kinds differ, so that only RDSCAN's two share a message. -/
theorem kindsStayDistinct : Obligations.KindsStayDistinct := by
  constructor
  · intro i op s u t n hb hexec hm _
    cases ledger_of_moves hb hexec hm with
    | unfailed used split noFail kind => exact ⟨used, split, iff_of_false kind noFail⟩
    | failed before split noFail kind done idle =>
      exact ⟨before ++ [.fail], split, iff_of_true kind (by simp)⟩
  · intro a b hkind hmsg
    exact (eq_or_scan_of_message_eq hmsg).resolve_left (hkind <| congrArg errorKind ·)

end Sys2Proof.Machine
end

section
/-! Encoding (rules R91 to R97, R110, R200): the bit fields of a packed byte, the numbers and letters that
the decoder accepts, and the statements on decoding. -/

namespace Sys2Proof

/-! ### The fields of a byte (rules R16, R95, R96, R98) -/

@[simp] theorem hiNibble_append (r x : BitVec 4) : hiNibble (r ++ x) = r :=
  BitVec.extractLsb'_append_eq_left

@[simp] theorem loNibble_append (r x : BitVec 4) : loNibble (r ++ x) = x :=
  BitVec.extractLsb'_append_eq_right

/-- A byte is its two nibbles. -/
@[simp] theorem hiNibble_append_loNibble (b : Byte) : (hiNibble b ++ loNibble b : Byte) = b :=
  BitVec.extractLsb'_append_extractLsb'

@[simp] theorem syncDistanceLow_packSync (l : BitVec 5) (v : BitVec 1) :
    syncDistanceLow (packSync l v) = l :=
  (BitVec.extractLsb'_append_eq_of_le (by decide)).trans BitVec.extractLsb'_append_eq_left

@[simp] theorem syncVhl_packSync (l : BitVec 5) (v : BitVec 1) : syncVhl (packSync l v) = v :=
  (BitVec.extractLsb'_append_eq_of_le (by decide)).trans BitVec.extractLsb'_append_eq_right

/-- The test of the sync bits is on the two low bits alone. -/
theorem syncBitsOk_iff (b : Byte) : syncBitsOk b = true ↔ b.extractLsb' 0 2 = 0b01#2 := by
  rw [syncBitsOk, beq_iff_eq, ← BitVec.toNat_inj, Machine.and_three_toNat,
    ← BitVec.toNat_inj, BitVec.extractLsb'_toNat]
  rfl

@[simp] theorem syncBitsOk_packSync (l : BitVec 5) (v : BitVec 1) :
    syncBitsOk (packSync l v) = true :=
  (syncBitsOk_iff _).mpr BitVec.extractLsb'_append_eq_right

/-- A byte with the sync bits is packed from its two fields. -/
theorem packSync_of_syncBitsOk {b : Byte} (h : syncBitsOk b = true) :
    packSync (syncDistanceLow b) (syncVhl b) = b := by
  have hjoin : (syncDistanceLow b ++ syncVhl b) = b.extractLsb' 2 6 :=
    BitVec.extractLsb'_append_extractLsb'_eq_extractLsb' (show 3 = 2 + 1 from rfl)
  rw [packSync, hjoin, ← (syncBitsOk_iff b).mp h]
  exact BitVec.extractLsb'_append_extractLsb'

/-! ### Operation numbers and constants (rules R110, R112, R200) -/

/-- An operation number that the decoder accepts is the one of its instruction. -/
theorem encode_of_decodeOpsel {op : Byte} {x : Operands} {i : Instr}
    (h : decodeOpsel op x = .ok i) : encode i = (.hostop, encodeOp op x) := by
  unfold decodeOpsel at h
  split at h
  all_goals cases h
  all_goals
    rename_i hop
    exact congrArg (fun n => (Format.hostop, encodeOp n x)) (BitVec.eq_of_toNat_eq hop.symm)

/-- The two letters of a constant that the decoder accepts are those of its instruction. -/
theorem encode_of_decodeConstant {c d : Byte} {i : Instr} (h : decodeConstant c d = .ok i) :
    encode i = (.cmd2, [c, d]) := by
  unfold decodeConstant at h
  split at h
  all_goals cases h
  all_goals
    rename_i hc hd
    exact congrArg₂ (fun a b => (Format.cmd2, [a, b])) (BitVec.eq_of_toNat_eq hc.symm)
      (BitVec.eq_of_toNat_eq hd.symm)

/-- Number 0 is reserved, and numbers above 7 are out of range. -/
theorem decodeOpsel_unassigned {op : Byte} (h : op = 0#8 ∨ 7 < op.toNat) (x : Operands) :
    decodeOpsel op x = .error (if op = 0#8 then .reservedOpsel else .opselOutOfRange) := by
  obtain rfl | h := h
  · rfl
  · have hne : op ≠ 0#8 := by
      rintro rfl
      exact absurd h (by decide)
    rw [if_neg hne]
    unfold decodeOpsel
    split
    case h_9 => rfl
    all_goals omega

/-! ### The statements -/

/-- Settles O1, by the constructors: only the packed bytes of a scan record need their fields read
back. -/
theorem decodeReadsEveryEncoding : Obligations.DecodeReadsEveryEncoding := by
  intro i
  cases i with
  | wrcmd x | wrarg x | rdhdr x | rdprm x | rdscan x | rdmotor x | rdrate x => cases x <;> rfl
  | scanL6 l v h a b r x k => simp [encode, packScanL6, decode]
  | scanL5 l v h a b r k => simp [encode, packScanL5, decode]
  | _ => rfl

/-- Settles O2, by the decoder's cases: the number or letters accepted are the encoder's, the byte tested
is the terminator, and the byte with the sync bits is packed from its fields. -/
theorem decodedBytesAreTheEncoding : Obligations.DecodedBytesAreTheEncoding := by
  intro f bytes i h
  unfold decode at h
  split at h
  · exact encode_of_decodeOpsel h
  · exact encode_of_decodeOpsel h
  · exact encode_of_decodeConstant h
  · split at h <;> cases h
    rename_i hterm
    rw [hterm]
    rfl
  · split at h <;> cases h
    rename_i hterm
    rw [hterm]
    rfl
  · cases h
    rfl
  · cases h
    rfl
  · split at h <;> cases h
    rename_i hsync
    simp [encode, packScanL6, packSync_of_syncBitsOk hsync]
  · split at h <;> cases h
    rename_i hsync
    simp [encode, packScanL5, packSync_of_syncBitsOk hsync]
  · cases h
    rfl
  · cases h

/-- Settles O3: the decoder evaluated on the words. -/
theorem sampleWordsDecode : Obligations.SampleWordsDecode := by
  unfold Obligations.SampleWordsDecode
  decide

end Sys2Proof
end

section
/-! Steps and instructions (rules R22, R40, R200, R270, R272): a step by the agent that makes it, what each
kind of instruction does, and the statements on one step that need no invariant. -/

namespace Sys2Proof.Machine

/-! ### A step, by the agent that makes it -/

/-- The framer's step is one move. -/
theorem step_framer {s : State} (h : nextAgent s = some .framer) : step s = resume (passTurn s) := by
  simp only [step, stepOnce, h]

/-- The host's step is its next input. -/
theorem step_host {s : State} {x : HostInput} {rest : List HostInput}
    (h : nextAgent s = some .host) (hp : s.program = x :: rest) :
    step s = feedHost x { passTurn s with program := rest } := by
  simp only [step, stepOnce, h, hostTurn, passTurn_program, hp]

/-- The transport's step is its next input. -/
theorem step_transport {s : State} {x : TransportInput} {rest : List TransportInput}
    (h : nextAgent s = some .transport) (hw : s.wire = x :: rest) :
    step s = feedTransport x { passTurn s with wire := rest } := by
  simp only [step, stepOnce, h, transportTurn, passTurn_wire, hw]

/-- With nobody to move, a step passes the turn. -/
theorem step_nobody {s : State} (h : nextAgent s = none) : step s = .next (passTurn s) := by
  simp only [step, stepOnce, h]

/-- An agent that is named by the next turn and can move is the one that moves. -/
theorem nextAgent_of_turn {s : State} {a : Agent} {more : List Agent} (ht : s.turns = a :: more)
    (hr : ready a s = true) : nextAgent s = some a := by
  simp only [nextAgent, ht, hr, if_true]

/-- Nobody moves when nobody can. -/
theorem nextAgent_eq_none {s : State} (h : ∀ a, ready a s = false) : nextAgent s = none := by
  have hd : defaultAgent s = none := by simp [defaultAgent, h]
  unfold nextAgent
  split
  · exact hd
  · simp [h, hd]

/-- On a busy framer the host can only reset the block. -/
theorem ready_host_busy {s : State} (hp : s.phase ≠ .idle) (hr : s.program.head? ≠ some .reset) :
    ready .host s = false := by
  have hbusy : busy s = true := bne_iff_ne.mpr hp
  rcases hprog : s.program with _ | ⟨x, rest⟩
  · simp [ready, hprog]
  · cases x <;> simp_all [ready]

/-- The host moves during an operation only to reset the block. -/
theorem idle_of_nextAgent_host {s : State} (h : nextAgent s = some .host)
    (hr : s.program.head? ≠ some .reset) : s.phase = .idle := by
  by_contra hp
  have hready := nextAgent_ready h
  rw [ready_host_busy hp hr] at hready
  cases hready

/-! ### Inputs -/

/-- Bytes of the host that decode are run as their instruction. -/
theorem feedHost_of_decode {f : HostFormat} {bytes : List Byte} {i : Instr}
    (h : decode (hostFormat f) bytes = .ok i) (s : State) :
    feedHost (.word f bytes) s = exec i s := by
  simp only [feedHost, h]

/-- Bytes of the host that do not decode are refused by name. -/
theorem feedHost_of_error {f : HostFormat} {bytes : List Byte} {why : DecodeError}
    (h : decode (hostFormat f) bytes = .error why) (s : State) :
    feedHost (.word f bytes) s = .refused (.undecodable why) := by
  simp only [feedHost, h]

/-- An arriving packet that decodes is run as its instruction. -/
theorem feedTransport_of_decode {f : ArrivalFormat} {bytes : List Byte} {i : Instr}
    (h : decode (arrivalFormat f) bytes = .ok i) (s : State) :
    feedTransport (.word f bytes) s = exec i s := by
  simp only [feedTransport, h]

/-! ### Instructions -/

/-- The operands of an instruction that begins an operation (rules R40, R91, R92). -/
def startOperands (i : Instr) (s : State) : Operands :=
  match i with
  | .wrcmd x | .wrarg x | .rdhdr x | .rdprm x | .rdscan x | .rdmotor x | .rdrate x => x
  | .bare c d => .given c d s.hostArg0 s.hostArg1
  | .argpkt c d a b => .given c d a b
  | _ => .ports

/-- An instruction that begins an operation is its START with the instruction's operands. -/
theorem exec_eq_startThen {i : Instr} {op : OpSel} (h : begins i = some op) (s : State) :
    exec i s = startThen op (startOperands i s) (prepare op) s := by
  cases i <;> cases h <;> rfl

/-- On an idle framer it latches the operands and makes the first transaction ready. -/
theorem exec_begins_idle {i : Instr} {op : OpSel} {s : State} (h : begins i = some op)
    (hp : s.phase = .idle) : exec i s = .next (prepare op (latch op (startOperands i s) s)) := by
  rw [exec_eq_startThen h, startThen_idle hp]

/-- An instruction that begins no operation names a code or arrives as bytes, in every state alike. -/
theorem exec_begins_none {i : Instr} (h : begins i = none) :
    (∃ c0 c1, ∀ s, exec i s = .next (selectCode c0 c1 s)) ∨
    (∃ bytes, ∀ s, exec i s = .next (receive bytes s)) := by
  cases i with
  | wrcmd | wrarg | rdhdr | rdprm | rdscan | rdmotor | rdrate | bare | argpkt => cases h
  | hdr | prm | scanL6 | scanL5 | info => exact .inr ⟨_, fun _ => rfl⟩
  | _ => exact .inl ⟨_, _, fun _ => rfl⟩

/-- What an instruction comes to: a START on an idle framer, a refused one, a code named, or an
arrival. -/
theorem exec_cases (i : Instr) (s : State) :
    (∃ op, begins i = some op ∧ s.phase = .idle ∧
      exec i s = .next (prepare op (latch op (startOperands i s) s))) ∨
    (begins i ≠ none ∧ s.phase ≠ .idle ∧ exec i s = .refused .startWhileBusy) ∨
    (begins i = none ∧ ∃ c0 c1, exec i s = .next (selectCode c0 c1 s)) ∨
    (begins i = none ∧ ∃ bytes, exec i s = .next (receive bytes s)) := by
  cases hb : begins i with
  | none =>
    obtain ⟨c0, c1, h⟩ | ⟨bytes, h⟩ := exec_begins_none hb
    · exact .inr (.inr (.inl ⟨rfl, c0, c1, h s⟩))
    · exact .inr (.inr (.inr ⟨rfl, bytes, h s⟩))
  | some op =>
    by_cases hp : s.phase = .idle
    · exact .inl ⟨op, rfl, hp, exec_begins_idle hb hp⟩
    · exact .inr (.inl ⟨nofun, hp, (exec_eq_startThen hb s).trans (startThen_busy hp)⟩)

/-! ### Waiting (rule R272) -/

/-- Without an answer only the checks can be made. -/
theorem canMove_of_no_answers {s : State} (ha : s.answers = []) (hp : s.phase ≠ .check) :
    canMove s = false := by
  unfold canMove
  split <;> simp_all [writeAnswered, readAnswered]

/-! ### The statements -/

/-- Settles O4: the decoder refuses the number, and the host's step is the fed word. -/
theorem unassignedOpselRefused : Obligations.UnassignedOpselRefused := by
  intro op c0 c1 a0 a1 bytes s rest hop hbytes hn hprog
  rw [step_host hn hprog]
  apply feedHost_of_error
  obtain rfl | rfl := hbytes
  · exact decodeOpsel_unassigned hop .ports
  · exact decodeOpsel_unassigned hop (.given c0 c1 a0 a1)

/-- Settles O5, from the step of each agent. -/
theorem stepRunsTheDecodedInstruction : Obligations.StepRunsTheDecodedInstruction := by
  refine ⟨?_, ?_, fun s => step_framer, fun s a more => nextAgent_of_turn,
    fun s => idle_of_nextAgent_host⟩
  · intro s f bytes rest i hn hprog hdec
    exact (step_host hn hprog).trans (feedHost_of_decode hdec _)
  · intro s f bytes rest i hn hwire hdec
    exact (step_transport hn hwire).trans (feedTransport_of_decode hdec _)

/-- Settles O6: no agent can move, so the step passes the turn. -/
theorem unansweredTransactionWaits : Obligations.UnansweredTransactionWaits := by
  intro s hs hidle hcheck hans hwire hreset
  have hnone : nextAgent s = none := by
    apply nextAgent_eq_none
    intro a
    cases a with
    | framer => exact canMove_of_no_answers hans hcheck
    | host => exact ready_host_busy hidle hreset
    | transport => simp [ready, hwire]
  exact ⟨step_nobody hnone, Bool.eq_false_iff.mpr (mt hs.doneIdle hidle)⟩

/-- Settles O15, from what an instruction comes to. -/
theorem onlyAStartWhileBusyIsRefused : Obligations.OnlyAStartWhileBusyIsRefused := by
  intro i s
  obtain ⟨op, hb, hp, h⟩ | ⟨hb, hp, h⟩ | ⟨hb, c0, c1, h⟩ | ⟨hb, bytes, h⟩ := exec_cases i s
  · exact ⟨fun _ => ⟨_, h⟩, fun _ hbusy => absurd hp hbusy⟩
  · exact ⟨fun hor => (hor.elim hb hp).elim, fun _ _ => h⟩
  · exact ⟨fun _ => ⟨_, h⟩, fun hne => absurd hb hne⟩
  · exact ⟨fun _ => ⟨_, h⟩, fun hne => absurd hb hne⟩

/-- Settles O53: a constant's meaning is the naming of its two letters. -/
theorem codeConstantsSetTheHostOperand : Obligations.CodeConstantsSetTheHostOperand := by
  intro s i c0 c1 hmem
  simp only [List.mem_cons, List.not_mem_nil, Prod.mk.injEq, or_false] at hmem
  rcases hmem with ⟨rfl, rfl, rfl⟩ | ⟨rfl, rfl, rfl⟩ | ⟨rfl, rfl, rfl⟩ | ⟨rfl, rfl, rfl⟩ |
    ⟨rfl, rfl, rfl⟩ | ⟨rfl, rfl, rfl⟩ | ⟨rfl, rfl, rfl⟩ | ⟨rfl, rfl, rfl⟩ | ⟨rfl, rfl, rfl⟩ |
    ⟨rfl, rfl, rfl⟩ <;> rfl

/-- Settles O54: an inbound packet's meaning is the arrival of its bytes. -/
theorem inboundPacketsJoinTheStream : Obligations.InboundPacketsJoinTheStream := by
  unfold Obligations.InboundPacketsJoinTheStream
  intros
  exact ⟨rfl, rfl, rfl, rfl, rfl⟩

end Sys2Proof.Machine
end

section
/-! One move of the framer, of every operation at once (rules R36, R131, R132, R145, R146, R163, R192,
R193): what an operation writes, reads and checks, and the relation between the states before and after a
move. The invariants and the endings of every operation are derived from this relation. -/

namespace Sys2Proof.Machine

/-! ### What an operation writes, reads and checks -/

/-- The error of a transaction that fails (rules R134, R145, R146, R168, R192, R193). -/
def transportError : OpSel → Status
  | .reserved => .ok
  | .wrcmd => .writeCmd
  | .wrarg => .writeArgs
  | .rdhdr => .readHeader
  | .rdprm => .readParam
  | .rdscan => .scanRead
  | .rdmotor => .readMotor
  | .rdrate => .readRate

/-- The packet of a writing operation, from the latched operands (rules R91, R92). -/
def packet (s : State) : List Byte :=
  if s.opsel = .wrcmd then packBare s.code0 s.code1
  else packArgpkt s.code0 s.code1 s.arg0 s.arg1

/-- What a FILL does after its packet is in BUF: RDSCAN has made no shift (rule R163). -/
def afterFill : OpSel → State → State
  | .rdscan => clearShifts
  | _ => id

/-- What CHECK ends an operation with; none when it asks for a byte instead (rules R144, R163, R195). -/
def checkResult (s : State) : Option Status :=
  match s.opsel with
  | .rdhdr => some (responseStatus .headerChecksum .headerCmd s.buf s.code0 s.code1)
  | .rdprm => some (responseStatus .paramChecksum .paramCmd s.buf s.code0 s.code1)
  | .rdscan =>
      if scanValid s.cfg.scanLayout (window s) = true then some .ok
      else if s.shifts = s.cfg.maxShifts then some .scanBound
      else none
  | .rdmotor => some (infoStatus .motorCmd s.buf s.code0 s.code1)
  | .rdrate => some (infoStatus .rateCmd s.buf s.code0 s.code1)
  | _ => none

/-- The operations that begin in WRITE are the two writing ones. -/
theorem firstPhase_eq_write {op : OpSel} : firstPhase op = .write ↔ op = .wrcmd ∨ op = .wrarg := by
  cases op <;> simp [firstPhase]

/-- An operation that reads begins in FILL. -/
theorem firstPhase_of_readLen {cfg : Config} {op : OpSel} {n : Nat} (h : readLen cfg op = some n) :
    firstPhase op = .fill := by
  cases op <;> cases h <;> rfl

/-! ### The moves (rules R22, R36) -/

/-- A move of the framer from `s`. -/
inductive Moved (s : State) : State → Prop
  /-- an idle framer, and one whose transaction is not answered, have no step of their own (rule R272) -/
  | stays (fit : phaseFits s.opsel s.phase = true) (still : canMove s = false) : Moved s s
  /-- the write failed -/
  | unwritten (phase : s.phase = .write) (op : firstPhase s.opsel = .write)
      (answer : s.answers.head? = some .fail) :
      Moved s (finish (transportError s.opsel) (failedWrite (packet s) s))
  /-- the packet was sent -/
  | written (phase : s.phase = .write) (op : firstPhase s.opsel = .write)
      (answer : s.answers.head? = some .ok) :
      Moved s (finish .ok (sentWrite (packet s) s))
  /-- the first read failed -/
  | unfilled {n : Nat} (phase : s.phase = .fill) (op : readLen s.cfg s.opsel = some n)
      (answer : s.answers.head? = some .fail) :
      Moved s (finish (transportError s.opsel) (failedRead n s))
  /-- the packet is in BUF, to be checked next -/
  | filled {n : Nat} (phase : s.phase = .fill) (op : readLen s.cfg s.opsel = some n)
      (answer : s.answers.head? = some .ok) (arrived : n ≤ s.inbound.length) :
      Moved s (afterFill s.opsel (toPhase .check (setBuf (s.inbound.take n) (takenRead n s))))
  /-- the checks end the operation -/
  | checked {st : Status} (phase : s.phase = .check) (result : checkResult s = some st) :
      Moved s (finish st s)
  /-- an invalid scan window below the bound asks for a byte -/
  | asked (phase : s.phase = .check) (op : s.opsel = .rdscan) (result : checkResult s = none) :
      Moved s (toPhase .refill s)
  /-- the one-byte read failed -/
  | unshifted (phase : s.phase = .refill) (op : s.opsel = .rdscan)
      (answer : s.answers.head? = some .fail) :
      Moved s (finish .scanRead (failedRead 1 s))
  /-- the window is shifted by one byte, to be checked next -/
  | shifted (phase : s.phase = .refill) (op : s.opsel = .rdscan)
      (answer : s.answers.head? = some .ok) (arrived : 1 ≤ s.inbound.length) :
      Moved s (shiftIn (byteAt (s.inbound.take 1) 0) (takenRead 1 s))

/-! ### The move of each phase -/

/-- In WRITE, a writing operation writes its packet. -/
theorem resume_write {s : State} (hp : s.phase = .write) (hop : firstPhase s.opsel = .write) :
    resume s = .next (writeMove (packet s) (transportError s.opsel) s) := by
  obtain ho | ho := firstPhase_eq_write.mp hop <;>
    simp [resume, hp, ho, wrcmdWrite, wrargWrite, packet, transportError]

/-- In FILL, a reading operation reads its packet. -/
theorem resume_fill {s : State} {n : Nat} (hp : s.phase = .fill)
    (hop : readLen s.cfg s.opsel = some n) :
    resume s = .next (fillMove n (transportError s.opsel) (afterFill s.opsel) s) := by
  revert hop
  cases ho : s.opsel <;> intro hop <;> cases hop <;> simp only [resume, hp, ho] <;> rfl

/-- CHECK of RDSCAN, by the result of its checks. -/
theorem rdscanCheck_eq {s : State} (ho : s.opsel = .rdscan) :
    rdscanCheck s =
      match checkResult s with
      | some st => finish st s
      | none => toPhase .refill s := by
  simp only [checkResult, ho]
  obtain ⟨hv, h⟩ | ⟨hv, hb, h⟩ | ⟨hv, hb, h⟩ := rdscanCheck_cases s
  · simp [hv, h]
  · simp [hv, hb, h]
  · simp [hv, hb, h]

/-- In CHECK, a result ends the operation with it. -/
theorem resume_check {s : State} {st : Status} (hp : s.phase = .check)
    (hr : checkResult s = some st) : resume s = .next (finish st s) := by
  cases ho : s.opsel with
  | reserved | wrcmd | wrarg => simp [checkResult, ho] at hr
  | rdscan => simp only [resume, hp, ho, rdscanCheck_eq ho, hr]
  | rdhdr | rdprm | rdmotor | rdrate =>
    simp only [checkResult, ho, Option.some.injEq] at hr
    simp only [resume, hp, ho, rdhdrCheck_eq, rdprmCheck_eq, rdmotorCheck_eq, rdrateCheck_eq, hr]

/-- In CHECK, RDSCAN without a result asks for a byte. -/
theorem resume_ask {s : State} (hp : s.phase = .check) (ho : s.opsel = .rdscan)
    (hr : checkResult s = none) : resume s = .next (toPhase .refill s) := by
  simp only [resume, hp, ho, rdscanCheck_eq ho, hr]

/-- In REFILL, RDSCAN reads one byte. -/
theorem resume_refill {s : State} (hp : s.phase = .refill) (ho : s.opsel = .rdscan) :
    resume s = .next (rdscanRefill s) := by
  simp only [resume, hp, ho]

/-! ### The relation is the framer's move -/

/-- A place at which the operation has a first transaction is one that it takes. -/
theorem phaseFits_of_firstPhase {op : OpSel} {p : Phase} (h : firstPhase op = p) :
    phaseFits op p = true := by
  cases op <;> cases h <;> rfl

/-- Only a writing operation takes WRITE. -/
theorem firstPhase_of_phaseFits_write {op : OpSel} (h : phaseFits op .write = true) :
    firstPhase op = .write := by
  cases op <;> cases h <;> rfl

/-- Only a reading operation takes FILL. -/
theorem exists_readLen_of_phaseFits_fill {op : OpSel} (h : phaseFits op .fill = true)
    (cfg : Config) : ∃ n, readLen cfg op = some n := by
  cases op <;> cases h <;> exact ⟨_, rfl⟩

/-- Only RDSCAN takes REFILL. -/
theorem eq_rdscan_of_phaseFits_refill {op : OpSel} (h : phaseFits op .refill = true) :
    op = .rdscan := by
  cases op with
  | rdscan => rfl
  | _ => cases h

/-- Only RDSCAN can leave CHECK without a result. -/
theorem eq_rdscan_of_checkResult {s : State} (h : phaseFits s.opsel .check = true)
    (hr : checkResult s = none) : s.opsel = .rdscan := by
  unfold checkResult at hr
  cases ho : s.opsel with
  | rdscan => rfl
  | reserved | wrcmd | wrarg => simp [ho, phaseFits] at h
  | rdhdr | rdprm | rdmotor | rdrate => simp [ho] at hr

/-- The write move is a move of its operation. -/
theorem moved_writeMove {s : State} (hp : s.phase = .write) (hop : firstPhase s.opsel = .write) :
    Moved s (writeMove (packet s) (transportError s.opsel) s) := by
  obtain ⟨ha, h⟩ | ⟨ha, h⟩ | ⟨ha, h⟩ := writeMove_cases (packet s) (transportError s.opsel) s <;> rw [h]
  · exact .stays (phaseFits_of_firstPhase (hop.trans hp.symm))
      (canMove_of_no_answers ha (by simp [hp]))
  · exact .unwritten hp hop ha
  · exact .written hp hop ha

/-- The fill move is a move of its operation. -/
theorem moved_fillMove {s : State} {n : Nat} (hp : s.phase = .fill)
    (hop : readLen s.cfg s.opsel = some n) :
    Moved s (fillMove n (transportError s.opsel) (afterFill s.opsel) s) := by
  obtain ⟨ha, h⟩ | ⟨ha, h⟩ | ⟨ha, hn, h⟩ :=
    fillMove_cases n (transportError s.opsel) (afterFill s.opsel) s <;> rw [h]
  · exact .stays (phaseFits_of_firstPhase ((firstPhase_of_readLen hop).trans hp.symm))
      (by simpa [canMove, hp, hop] using ha)
  · exact .unfilled hp hop ha
  · exact .filled hp hop ha hn

/-- The refill move is a move of RDSCAN. -/
theorem moved_rdscanRefill {s : State} (hp : s.phase = .refill) (ho : s.opsel = .rdscan) :
    Moved s (rdscanRefill s) := by
  obtain ⟨ha, h⟩ | ⟨ha, h⟩ | ⟨ha, hn, h⟩ := rdscanRefill_cases s <;> rw [h]
  · exact .stays (by rw [hp, ho]; rfl) (by simpa [canMove, hp] using ha)
  · exact .unshifted hp ho ha
  · exact .shifted hp ho ha hn

/-- From a place that the operation takes, the framer has a move. -/
theorem exists_moved {s : State} (fit : phaseFits s.opsel s.phase = true) :
    ∃ t, Moved s t ∧ resume s = .next t := by
  cases hp : s.phase with
  | idle => exact ⟨s, .stays fit (by simp [canMove, hp]), resume_idle hp⟩
  | write =>
    have hop := firstPhase_of_phaseFits_write (hp ▸ fit)
    exact ⟨_, moved_writeMove hp hop, resume_write hp hop⟩
  | fill =>
    obtain ⟨n, hop⟩ := exists_readLen_of_phaseFits_fill (hp ▸ fit) s.cfg
    exact ⟨_, moved_fillMove hp hop, resume_fill hp hop⟩
  | check =>
    cases hr : checkResult s with
    | some st => exact ⟨_, .checked hp hr, resume_check hp hr⟩
    | none =>
      have ho := eq_rdscan_of_checkResult (hp ▸ fit) hr
      exact ⟨_, .asked hp ho hr, resume_ask hp ho hr⟩
  | refill =>
    have ho := eq_rdscan_of_phaseFits_refill (hp ▸ fit)
    exact ⟨_, moved_rdscanRefill hp ho, resume_refill hp ho⟩

/-- The framer has a move only at a place that the operation takes. -/
theorem phaseFits_of_resume {s t : State} (h : resume s = .next t) :
    phaseFits s.opsel s.phase = true := by
  unfold resume at h
  split at h
  case h_1 hp =>
    rw [hp]
    cases s.opsel <;> rfl
  case h_15 => cases h
  all_goals
    rename_i hp ho
    rw [hp, ho]
    rfl

/-- The framer's move is one of the relation. -/
theorem moved_of_resume {s t : State} (h : resume s = .next t) : Moved s t := by
  obtain ⟨t', m, h'⟩ := exists_moved (phaseFits_of_resume h)
  cases h.symm.trans h'
  exact m

/-- A settled `Fail` answers a read. -/
theorem readAnswered_of_fail {n : Nat} {s : State} (ha : s.answers.head? = some .fail) :
    readAnswered n s = true := by
  obtain ⟨rest, ha⟩ := List.head?_eq_some_iff.mp ha
  simp [readAnswered, ha]

/-- A settled `Ok` answers a read whose bytes are there. -/
theorem readAnswered_of_ok {n : Nat} {s : State} (ha : s.answers.head? = some .ok)
    (hn : n ≤ s.inbound.length) : readAnswered n s = true := by
  obtain ⟨rest, ha⟩ := List.head?_eq_some_iff.mp ha
  simpa [readAnswered, ha] using hn

/-- Any settled answer answers a write. -/
theorem writeAnswered_of_head {a : Answer} {s : State} (ha : s.answers.head? = some a) :
    writeAnswered s = true := by
  obtain ⟨rest, ha⟩ := List.head?_eq_some_iff.mp ha
  simp [writeAnswered, ha]

/-- A framer that can not move stays as it is. -/
theorem Moved.eq_of_still {s t : State} (m : Moved s t) (still : canMove s = false) : t = s := by
  cases m with
  | stays => rfl
  | unwritten hp _ ha | written hp _ ha => simp [canMove, hp, writeAnswered_of_head ha] at still
  | unfilled hp _ ha | unshifted hp _ ha => simp [canMove, hp, readAnswered_of_fail ha] at still
  | filled hp hop ha hn => simp [canMove, hp, hop, readAnswered_of_ok ha hn] at still
  | shifted hp _ ha hn => simp [canMove, hp, readAnswered_of_ok ha hn] at still
  | checked hp | asked hp => simp [canMove, hp] at still

/-- The relation determines the framer's move. -/
theorem Moved.resume_eq {s t : State} (m : Moved s t) : resume s = .next t := by
  cases m with
  | stays fit still =>
    obtain ⟨t, m, h⟩ := exists_moved fit
    rwa [m.eq_of_still still] at h
  | unwritten hp hop ha =>
    obtain ⟨rest, ha⟩ := List.head?_eq_some_iff.mp ha
    simp [resume_write hp hop, writeMove, tWrite, ha]
  | written hp hop ha =>
    obtain ⟨rest, ha⟩ := List.head?_eq_some_iff.mp ha
    simp [resume_write hp hop, writeMove, tWrite, ha]
  | unfilled hp hop ha =>
    obtain ⟨rest, ha⟩ := List.head?_eq_some_iff.mp ha
    simp [resume_fill hp hop, fillMove, tRead_fail ha]
  | filled hp hop ha hn =>
    obtain ⟨rest, ha⟩ := List.head?_eq_some_iff.mp ha
    simp [resume_fill hp hop, fillMove, tRead_ok ha hn]
  | checked hp hr => exact resume_check hp hr
  | asked hp ho hr => exact resume_ask hp ho hr
  | unshifted hp ho ha =>
    obtain ⟨rest, ha⟩ := List.head?_eq_some_iff.mp ha
    simp [resume_refill hp ho, rdscanRefill, tRead_fail ha]
  | shifted hp ho ha hn =>
    obtain ⟨rest, ha⟩ := List.head?_eq_some_iff.mp ha
    simp [resume_refill hp ho, rdscanRefill, tRead_ok ha hn]

/-- Several moves, the first one known. -/
theorem Moved.moves_succ {s t : State} (m : Moved s t) (n : Nat) : moves (n + 1) s = moves n t :=
  moves_succ_of m.resume_eq

/-- The induction over moves, by the relation. -/
theorem moved_induct {P : State → Prop} (keep : ∀ s t, P s → Moved s t → P t) {n : Nat}
    {s t : State} (hs : P s) (h : moves n s = .next t) : P t :=
  moves_induct (fun s t hs h => keep s t hs (moved_of_resume h)) hs h

/-! ### What every move leaves unchanged -/

/-- Only SHIFTS differs after the end of a FILL. -/
theorem afterFill_eq (op : OpSel) (s : State) :
    afterFill op s = { s with shifts := if op = .rdscan then 0 else s.shifts } := by
  cases op <;> rfl

/-- Only BUF differs before the first transaction. -/
theorem prepare_eq (op : OpSel) (s : State) :
    prepare op s = { s with buf := (prepare op s).buf } := by
  cases op <;> rfl

section
variable (op : OpSel) (s : State)

@[simp] theorem prepare_cfg : (prepare op s).cfg = s.cfg := by cases op <;> rfl
@[simp] theorem prepare_opsel : (prepare op s).opsel = s.opsel := by cases op <;> rfl
@[simp] theorem prepare_phase : (prepare op s).phase = s.phase := by cases op <;> rfl
@[simp] theorem prepare_shifts : (prepare op s).shifts = s.shifts := by cases op <;> rfl
@[simp] theorem prepare_done : (prepare op s).done = s.done := by cases op <;> rfl
@[simp] theorem prepare_consumed : (prepare op s).consumed = s.consumed := by cases op <;> rfl
@[simp] theorem prepare_inbound : (prepare op s).inbound = s.inbound := by cases op <;> rfl
@[simp] theorem prepare_outbound : (prepare op s).outbound = s.outbound := by cases op <;> rfl

end

/-- The two states have the same configuration and operand latches (rules R31, R46). -/
structure SameLatches (s t : State) : Prop where
  cfg : t.cfg = s.cfg
  opsel : t.opsel = s.opsel
  code0 : t.code0 = s.code0
  code1 : t.code1 = s.code1
  arg0 : t.arg0 = s.arg0
  arg1 : t.arg1 = s.arg1

/-- A move changes neither the configuration nor a latch. -/
theorem Moved.sameLatches {s t : State} (m : Moved s t) : SameLatches s t := by
  cases m with
  | filled =>
    rw [afterFill_eq]
    exact ⟨rfl, rfl, rfl, rfl, rfl, rfl⟩
  | _ => exact ⟨rfl, rfl, rfl, rfl, rfl, rfl⟩

/-- Nor do several. -/
theorem sameLatches_of_moves {n : Nat} {s t : State} (h : moves n s = .next t) : SameLatches s t :=
  moved_induct (P := SameLatches s)
    (fun _ _ hs m =>
      have hm := m.sameLatches
      ⟨hm.cfg.trans hs.cfg, hm.opsel.trans hs.opsel, hm.code0.trans hs.code0,
        hm.code1.trans hs.code1, hm.arg0.trans hs.arg0, hm.arg1.trans hs.arg1⟩)
    ⟨rfl, rfl, rfl, rfl, rfl, rfl⟩ h

end Sys2Proof.Machine
end

section
/-! The invariant (rules R12, R35 to R39, R65, R164, R220, R274): its part on the framer's registers alone,
which a START establishes from any state and every move keeps, then the whole of it over every step, and the
statements that rest on it. -/

namespace Sys2Proof.Machine

/-! ### The bytes that the checks read -/

/-- A byte of the first `n` is the whole sequence's. -/
theorem byteAt_take {i n : Nat} (h : i < n) (w : List Byte) : byteAt (w.take n) i = byteAt w i := by
  simp only [byteAt, List.getD_eq_getElem?_getD, List.getElem?_take_of_lt h]

/-- The echo reads the first two bytes. -/
theorem echoOk_take {n : Nat} (h : 2 ≤ n) (w : List Byte) (c0 c1 : Byte) :
    echoOk (w.take n) c0 c1 = echoOk w c0 c1 := by
  rw [echoOk, byteAt_take (by omega), byteAt_take (by omega), echoOk]

/-- The header checksum reads the first five bytes. -/
theorem hdrChkOk_take (w : List Byte) : hdrChkOk (w.take 5) = hdrChkOk w := by
  rw [hdrChkOk, byteAt_take (by decide), byteAt_take (by decide), byteAt_take (by decide), hdrChkOk]

/-- A response that CHECK accepts passes both tests. -/
theorem responseStatus_ok {checksumError echoError : Status} (hc : checksumError ≠ .ok)
    (he : echoError ≠ .ok) {w : List Byte} {c0 c1 : Byte}
    (h : responseStatus checksumError echoError w c0 c1 = .ok) :
    hdrChkOk w = true ∧ echoOk w c0 c1 = true := by
  unfold responseStatus at h
  split_ifs at h with h1 h2
  · exact ⟨h1, h2⟩
  · exact absurd h he
  · exact absurd h hc

/-- An info packet that CHECK accepts passes the echo. -/
theorem infoStatus_ok {echoError : Status} (he : echoError ≠ .ok) {w : List Byte} {c0 c1 : Byte}
    (h : infoStatus echoError w c0 c1 = .ok) : echoOk w c0 c1 = true := by
  unfold infoStatus at h
  split_ifs at h with h1
  · exact h1
  · exact absurd h he

/-- The packet that CHECK accepts passes every check of its operation. -/
theorem accepted_of_checkResult {s : State} {n : Nat} (hr : checkResult s = some .ok)
    (hop : readLen s.cfg s.opsel = some n) :
    accepted s.cfg s.opsel s.code0 s.code1 (s.buf.take n) = true := by
  unfold checkResult at hr
  cases ho : s.opsel <;> simp only [ho, readLen, Option.some.injEq, reduceCtorEq] at hr hop <;>
    subst hop
  · obtain ⟨hchk, hecho⟩ := responseStatus_ok (by decide) (by decide) hr
    simp [accepted, hdrChkOk_take, headerLen, echoOk_take, hchk, hecho]
  · obtain ⟨hchk, hecho⟩ := responseStatus_ok (by decide) (by decide) hr
    simp [accepted, hdrChkOk_take, paramLen, echoOk_take, hchk, hecho]
  · split_ifs at hr with hv
    · exact hv
    · cases hr
  · simpa [accepted, echoOk_take, motorInfoLen] using infoStatus_ok (by decide) hr
  · simpa [accepted, echoOk_take, rateInfoLen] using infoStatus_ok (by decide) hr

/-! ### The table of outcomes (rule R220) -/

/-- What CHECK ends an operation with is in the operation's row. -/
theorem checkResult_mem {s : State} {st : Status} (hr : checkResult s = some st) :
    st ∈ mayFinishWith s.opsel := by
  unfold checkResult at hr
  cases ho : s.opsel <;> simp only [ho, reduceCtorEq, Option.some.injEq] at hr
  · subst hr; unfold responseStatus; split_ifs <;> decide
  · subst hr; unfold responseStatus; split_ifs <;> decide
  · split_ifs at hr <;> cases hr <;> decide
  · subst hr; unfold infoStatus; split_ifs <;> decide
  · subst hr; unfold infoStatus; split_ifs <;> decide

/-- An operation with a first transaction can end OK and with the error of a failed one. -/
theorem mayFinishWith_of_firstPhase {op : OpSel} (h : firstPhase op ≠ .idle) :
    .ok ∈ mayFinishWith op ∧ transportError op ∈ mayFinishWith op ∧ transportError op ≠ .ok := by
  cases op with
  | reserved => exact absurd rfl h
  | _ => decide

/-- A window that asks for a byte is below the bound. -/
theorem shifts_ne_of_checkResult {s : State} (ho : s.opsel = .rdscan)
    (hr : checkResult s = none) : s.shifts ≠ s.cfg.maxShifts := by
  simp only [checkResult, ho] at hr
  split_ifs at hr with hv hb
  exact hb

/-- An operation that reads takes CHECK. -/
theorem phaseFits_check {cfg : Config} {op : OpSel} {n : Nat} (h : readLen cfg op = some n) :
    phaseFits op .check = true := by
  cases op <;> cases h <;> rfl

/-! ### The registers of a framer in good order -/

/-- No operation has ended since the registers were cleared (rules R38 to R40). -/
structure Clear (s : State) : Prop where
  done : s.done = false
  status : s.status = .ok
  res : s.res = none
  resLen : s.resLen = 0

/-- The part of a sound state that speaks of the framer's registers alone. That the bytes checked are in
BUF stands in place of BUF's length, so that it holds after a START from any state. -/
structure Orderly (s : State) : Prop where
  shiftsBound : s.shifts ≤ s.cfg.maxShifts
  refillBound : s.phase = .refill → s.shifts < s.cfg.maxShifts
  phaseFit : phaseFits s.opsel s.phase = true
  checkedInBuf : s.phase = .check ∨ s.phase = .refill →
    ∀ n, readLen s.cfg s.opsel = some n → n ≤ s.buf.length
  clear : s.done = false → Clear s
  doneIdle : s.done = true → s.phase = .idle
  doneStatus : s.done = true → s.status ∈ mayFinishWith s.opsel
  resAccepted : ∀ w, s.res = some w →
    s.done = true ∧ s.status = .ok ∧ readLen s.cfg s.opsel = some w.length ∧
      s.resLen = w.length ∧ accepted s.cfg s.opsel s.code0 s.code1 w = true
  resGiven : ∀ n, s.done = true → s.status = .ok → readLen s.cfg s.opsel = some n →
    ∃ w, s.res = some w
  resEmpty : s.res = none → s.resLen = 0

/-- A busy framer in good order has no outcome yet. -/
theorem Orderly.clear_of_busy {s : State} (h : Orderly s) (hp : s.phase ≠ .idle) : Clear s :=
  h.clear (Bool.eq_false_iff.mpr (mt h.doneIdle hp))

/-- Good order while no operation has ended. -/
theorem Clear.orderly {s : State} (h : Clear s) (shiftsBound : s.shifts ≤ s.cfg.maxShifts)
    (refillBound : s.phase = .refill → s.shifts < s.cfg.maxShifts)
    (phaseFit : phaseFits s.opsel s.phase = true)
    (checkedInBuf : s.phase = .check ∨ s.phase = .refill →
      ∀ n, readLen s.cfg s.opsel = some n → n ≤ s.buf.length) : Orderly s where
  shiftsBound := shiftsBound
  refillBound := refillBound
  phaseFit := phaseFit
  checkedInBuf := checkedInBuf
  clear := fun _ => h
  doneIdle := by simp [h.done]
  doneStatus := by simp [h.done]
  resAccepted := by simp [h.res]
  resGiven := by simp [h.done]
  resEmpty := fun _ => h.resLen

/-- The end of an operation leaves good order: with an error of its row, or with OK and, when it reads, a
packet in BUF that passes its checks. -/
theorem orderly_finish {s : State} {st : Status} (shiftsBound : s.shifts ≤ s.cfg.maxShifts)
    (hst : st ∈ mayFinishWith s.opsel)
    (hok : st = .ok → ∀ n, readLen s.cfg s.opsel = some n →
      n ≤ s.buf.length ∧ accepted s.cfg s.opsel s.code0 s.code1 (s.buf.take n) = true) :
    Orderly (finish st s) where
  shiftsBound := shiftsBound
  refillBound := nofun
  phaseFit := by cases s.opsel <;> rfl
  checkedInBuf := nofun
  clear := nofun
  doneIdle := fun _ => rfl
  doneStatus := fun _ => hst
  resAccepted := by
    intro w hw
    obtain ⟨rfl, hw⟩ : st = .ok ∧ (readLen s.cfg s.opsel).map (s.buf.take ·) = some w := by
      by_cases h : st = .ok
      · exact ⟨h, by simpa [h] using hw⟩
      · simp [h] at hw
    obtain ⟨n, hn, rfl⟩ := Option.map_eq_some_iff.mp hw
    obtain ⟨hlen, hacc⟩ := hok rfl n hn
    have htake : (s.buf.take n).length = n := List.length_take_of_le hlen
    exact ⟨rfl, rfl, by rw [htake]; exact hn, by simp [hn, htake], hacc⟩
  resGiven := by
    intro n _ hs hn
    have hs : st = .ok := hs
    have hn : readLen s.cfg s.opsel = some n := hn
    exact ⟨s.buf.take n, by simp [hs, hn]⟩
  resEmpty := by
    by_cases h : st = .ok
    · cases hn : readLen s.cfg s.opsel <;> simp [h, hn]
    · simp [h]

/-- The framer of `s` in the outside world of `world`: its host and its transport. -/
def inWorld (world s : State) : State :=
  { withLeftovers s world with cfg := s.cfg, phase := s.phase }

/-- Good order speaks of the framer alone. -/
theorem Orderly.inWorld {s : State} (h : Orderly s) (world : State) : Orderly (inWorld world s) where
  shiftsBound := h.shiftsBound
  refillBound := h.refillBound
  phaseFit := h.phaseFit
  checkedInBuf := h.checkedInBuf
  clear := fun hd => ⟨hd, (h.clear hd).status, (h.clear hd).res, (h.clear hd).resLen⟩
  doneIdle := h.doneIdle
  doneStatus := h.doneStatus
  resAccepted := h.resAccepted
  resGiven := h.resGiven
  resEmpty := h.resEmpty

/-- A START leaves good order, whatever the state was (rule R40). -/
theorem orderly_start (op : OpSel) (x : Operands) (s : State) :
    Orderly (prepare op (latch op x s)) := by
  rw [prepare_eq]
  have hclear : Clear { latch op x s with buf := (prepare op (latch op x s)).buf } :=
    ⟨rfl, rfl, rfl, rfl⟩
  refine hclear.orderly (Nat.zero_le _) ?_ (phaseFits_of_firstPhase rfl) ?_
  · intro hp
    cases op <;> cases hp
  · intro hp
    cases op <;> obtain hp | hp := hp <;> cases hp

/-- The bytes of a filled packet are in BUF. -/
theorem le_length_take_append {n : Nat} {w : List Byte} (h : n ≤ w.length) (above : List Byte) :
    n ≤ (w.take n ++ above).length := by
  simp [h]

/-- The shift keeps the window in BUF. -/
theorem recordLen_le_shiftIn {s : State} (h : recordLen s.cfg ≤ s.buf.length) (x : Byte) :
    recordLen s.cfg ≤ (shiftIn x s).buf.length := by
  simp [window]
  omega

/-- Every move keeps good order. -/
theorem Orderly.keep (s t : State) (h : Orderly s) (m : Moved s t) : Orderly t := by
  cases m with
  | stays => exact h
  | unwritten hp hop =>
    obtain ⟨-, hmem, hne⟩ := mayFinishWith_of_firstPhase (op := s.opsel) (by simp [hop])
    exact orderly_finish h.shiftsBound hmem (absurd · hne)
  | written hp hop =>
    refine orderly_finish h.shiftsBound (mayFinishWith_of_firstPhase (hop ▸ nofun)).1 fun _ n hn => ?_
    cases hop.symm.trans (firstPhase_of_readLen hn)
  | unfilled hp hop =>
    obtain ⟨-, hmem, hne⟩ := mayFinishWith_of_firstPhase (op := s.opsel)
      (by simp [firstPhase_of_readLen hop])
    exact orderly_finish h.shiftsBound hmem (absurd · hne)
  | filled hp hop ha hn =>
    have hclear := h.clear_of_busy (hp ▸ nofun)
    rw [afterFill_eq]
    refine Clear.orderly ⟨hclear.done, hclear.status, hclear.res, hclear.resLen⟩ ?_ nofun
      (phaseFits_check hop) ?_
    · have hshifts := h.shiftsBound
      show (if s.opsel = .rdscan then 0 else s.shifts) ≤ s.cfg.maxShifts
      split_ifs <;> omega
    · intro _ n' hn'
      cases hop.symm.trans hn'
      exact le_length_take_append hn _
  | checked hp hr =>
    exact orderly_finish h.shiftsBound (checkResult_mem hr) fun hst n hn =>
      ⟨h.checkedInBuf (.inl hp) n hn, accepted_of_checkResult (hst ▸ hr) hn⟩
  | asked hp ho hr =>
    have hclear := h.clear_of_busy (hp ▸ nofun)
    have hlt := Nat.lt_of_le_of_ne h.shiftsBound (shifts_ne_of_checkResult ho hr)
    exact Clear.orderly ⟨hclear.done, hclear.status, hclear.res, hclear.resLen⟩ h.shiftsBound
      (fun _ => hlt) (by rw [toPhase_opsel, ho]; rfl) (fun _ => h.checkedInBuf (.inl hp))
  | unshifted hp ho =>
    exact orderly_finish h.shiftsBound (by rw [failedRead_opsel, ho]; decide) nofun
  | shifted hp ho =>
    have hclear := h.clear_of_busy (hp ▸ nofun)
    refine Clear.orderly ⟨hclear.done, hclear.status, hclear.res, hclear.resLen⟩ (h.refillBound hp)
      nofun (by rw [shiftIn_opsel, takenRead_opsel, ho]; rfl) ?_
    intro _ n hn
    have hn : readLen s.cfg s.opsel = some n := hn
    obtain rfl : recordLen s.cfg = n := by simpa [ho, readLen] using hn
    exact recordLen_le_shiftIn (s := takenRead 1 s) (h.checkedInBuf (.inr hp) _ hn) _

/-! ### Sound states -/

/-- A packet of the operation fits in BUF (rule R12). -/
theorem readLen_le_bufLen {cfg : Config} {op : OpSel} {n : Nat} (h : readLen cfg op = some n) :
    n ≤ bufLen cfg := by
  cases op <;> cases h <;> simp [bufLen]

/-- A record has at least one byte. -/
theorem one_le_recordLen (cfg : Config) : 1 ≤ recordLen cfg := by
  unfold recordLen
  split <;> decide

/-- A sound state is in good order. -/
theorem Sound.orderly {s : State} (h : Sound s) : Orderly s where
  shiftsBound := h.shiftsBound
  refillBound := h.refillBound
  phaseFit := h.phaseFit
  checkedInBuf := fun _ _ hn => h.bufLength ▸ readLen_le_bufLen hn
  clear := by
    intro hd
    have hres : s.res = none := by
      rw [Option.eq_none_iff_forall_ne_some]
      intro w hw
      simpa [hd] using (h.resAccepted w hw).1
    exact ⟨hd, h.runningOk hd, hres, h.resEmpty hres⟩
  doneIdle := h.doneIdle
  doneStatus := h.doneStatus
  resAccepted := h.resAccepted
  resGiven := h.resGiven
  resEmpty := h.resEmpty

/-- Good order, with BUF of its size and no loss to come while bytes are there, is a sound state. -/
theorem Orderly.sound {s : State} (h : Orderly s) (bufLength : s.buf.length = bufLen s.cfg)
    (skipEmpty : s.skip = 0 ∨ s.inbound = []) : Sound s where
  bufLength := bufLength
  shiftsBound := h.shiftsBound
  refillBound := h.refillBound
  phaseFit := h.phaseFit
  doneIdle := h.doneIdle
  runningOk := fun hd => (h.clear hd).status
  doneStatus := h.doneStatus
  resAccepted := h.resAccepted
  resGiven := h.resGiven
  skipEmpty := skipEmpty
  resEmpty := h.resEmpty

/-- Putting bytes that fit in BUF keeps its length. -/
theorem setBuf_length {bytes : List Byte} {s : State} (h : bytes.length ≤ s.buf.length) :
    (setBuf bytes s).buf.length = s.buf.length := by
  simp
  omega

/-- A serialized packet fits in BUF. -/
theorem prepare_buf_length (op : OpSel) {s : State} (h : s.buf.length = bufLen s.cfg) :
    (prepare op s).buf.length = bufLen s.cfg := by
  have hfit : 5 ≤ s.buf.length := by
    rw [h]
    exact readLen_le_bufLen (op := .rdhdr) rfl
  cases op with
  | wrcmd =>
    have hbare : (packBare s.code0 s.code1).length ≤ s.buf.length :=
      Nat.le_trans (show 3 ≤ 5 by decide) hfit
    exact (setBuf_length hbare).trans h
  | wrarg =>
    have hargpkt : (packArgpkt s.code0 s.code1 s.arg0 s.arg1).length ≤ s.buf.length := hfit
    exact (setBuf_length hargpkt).trans h
  | _ => exact h

/-- Every move keeps BUF's length. -/
theorem Moved.buf_length {s t : State} (m : Moved s t) (h : s.buf.length = bufLen s.cfg) :
    t.buf.length = bufLen s.cfg := by
  cases m with
  | filled hp hop ha hn =>
    rw [afterFill_eq]
    have hfit := readLen_le_bufLen hop
    exact (setBuf_length (s := s) (by simp; omega)).trans h
  | shifted hp ho =>
    have hfit := readLen_le_bufLen (cfg := s.cfg) (op := .rdscan) rfl
    have hone := one_le_recordLen s.cfg
    simp [window]
    omega
  | _ => exact h

/-- The stream's position is past the arrived bytes only when none is left (rule R65). -/
def NoByteSkipped (s : State) : Prop := s.skip = 0 ∨ s.inbound = []

/-- A failed read of any length keeps the position so. -/
theorem noByteSkipped_failedRead (n : Nat) {s : State} (h : NoByteSkipped s) :
    NoByteSkipped (failedRead n s) := by
  unfold NoByteSkipped at h ⊢
  rw [failedRead_skip, failedRead_inbound, List.drop_eq_nil_iff]
  obtain h | h := h
  · omega
  · simp [h]

/-- So do arriving bytes. -/
theorem noByteSkipped_receive (bytes : List Byte) {s : State} (h : NoByteSkipped s) :
    NoByteSkipped (receive bytes s) := by
  unfold NoByteSkipped at h ⊢
  rw [receive_skip, receive_inbound, List.append_eq_nil_iff, List.drop_eq_nil_iff]
  obtain h | h := h
  · exact .inl (by omega)
  · by_cases hlen : s.skip ≤ bytes.length
    · exact .inl (by omega)
    · exact .inr ⟨h, by omega⟩

/-- Every move keeps the position so. -/
theorem Moved.noByteSkipped {s t : State} (m : Moved s t) (h : NoByteSkipped s) :
    NoByteSkipped t := by
  cases m with
  | unfilled => exact noByteSkipped_failedRead _ h
  | unshifted => exact noByteSkipped_failedRead 1 h
  | filled hp hop ha hn =>
    rw [afterFill_eq]
    exact h.imp_right fun hnil => by simp [hnil]
  | shifted => exact h.imp_right fun hnil => by simp [hnil]
  | _ => exact h

/-- Every move keeps a state sound. -/
theorem Sound.keep {s t : State} (h : Sound s) (m : Moved s t) : Sound t :=
  (h.orderly.keep s t m).sound (m.sameLatches.cfg ▸ m.buf_length h.bufLength)
    (m.noByteSkipped h.skipEmpty)

/-- A START keeps a state sound. -/
theorem Sound.start {s : State} (h : Sound s) (op : OpSel) (x : Operands) :
    Sound (prepare op (latch op x s)) := by
  have hlen := prepare_buf_length op (s := latch op x s) h.bufLength
  refine (orderly_start op x s).sound ?_ ?_
  · rw [hlen, prepare_eq]
  · rw [prepare_eq]
    exact h.skipEmpty

/-- What becomes of an outstanding transaction at a reset: nothing, or what a failed one comes to. -/
theorem abandon_cases (s : State) :
    abandon s = s ∨ (∃ pkt, abandon s = failedWrite pkt s) ∨ (∃ n, abandon s = failedRead n s) := by
  unfold abandon
  split
  case h_9 => exact .inl rfl
  case h_1 | h_2 => exact .inr (.inl ⟨_, rfl⟩)
  all_goals exact .inr (.inr ⟨_, rfl⟩)

/-- The block's reset keeps a state sound. -/
theorem Sound.after_blockReset {s : State} (h : Sound s) : Sound (blockReset s) := by
  have hclear : Clear (blockReset s) := ⟨rfl, rfl, rfl, rfl⟩
  refine (hclear.orderly (Nat.zero_le _) nofun rfl nofun).sound List.length_replicate ?_
  show NoByteSkipped (abandon s)
  obtain ha | ⟨pkt, ha⟩ | ⟨n, ha⟩ := abandon_cases s <;> rw [ha]
  · exact h.skipEmpty
  · exact h.skipEmpty
  · exact noByteSkipped_failedRead n h.skipEmpty

/-- A sound framer in another world, whose stream position is as it should be, is sound. -/
theorem Sound.inWorld {s : State} (h : Sound s) {world : State} (hw : NoByteSkipped world) :
    Sound (inWorld world s) :=
  (h.orderly.inWorld world).sound h.bufLength hw

/-! ### What a step changes -/

/-- What one agent's step makes of a state from which its input and its turn are gone. -/
inductive Change (s : State) : State → Prop
  | moved {t : State} (m : Moved s t) : Change s t
  | started (op : OpSel) (x : Operands) (idle : s.phase = .idle) :
      Change s (prepare op (latch op x s))
  | named (c0 c1 : Byte) : Change s (selectCode c0 c1 s)
  | arrived (bytes : List Byte) : Change s (receive bytes s)
  | settled (a : Answer) : Change s (settle a s)
  | reset : Change s (blockReset s)
  | nothing : Change s s

/-- What an instruction changes. -/
theorem change_of_exec {i : Instr} {s t : State} (h : exec i s = .next t) : Change s t := by
  obtain ⟨op, -, hp, he⟩ | ⟨-, -, he⟩ | ⟨-, c0, c1, he⟩ | ⟨-, bytes, he⟩ := exec_cases i s
  · cases h.symm.trans he
    exact .started op _ hp
  · cases h.symm.trans he
  · cases h.symm.trans he
    exact .named c0 c1
  · cases h.symm.trans he
    exact .arrived bytes

/-- What an input of the host changes. -/
theorem change_of_feedHost {x : HostInput} {s t : State} (h : feedHost x s = .next t) :
    Change s t := by
  obtain ⟨-, -, i, -, -, he⟩ | ⟨-, rfl⟩ | ⟨-, rfl⟩ := feedHost_next h
  · exact change_of_exec he
  · exact .reset
  · exact .nothing

/-- What an input of the transport changes. -/
theorem change_of_feedTransport {x : TransportInput} {s t : State}
    (h : feedTransport x s = .next t) : Change s t := by
  obtain ⟨-, -, i, -, -, he⟩ | ⟨bytes, -, rfl⟩ | ⟨a, -, rfl⟩ := feedTransport_next h
  · exact change_of_exec he
  · exact .arrived bytes
  · exact .settled a

/-- A step is a change of the state with an input and a turn gone. -/
theorem change_of_step {s t : State} (h : step s = .next t) :
    ∃ program wire turns,
      Change { s with program := program, wire := wire, turns := turns } t := by
  obtain ⟨-, -, hs⟩ | ⟨-, x, rest, -, -, hs⟩ | ⟨-, x, rest, -, hs⟩ | ⟨-, hs⟩ := step_eq s <;>
    rw [hs] at h
  · exact ⟨_, _, _, .moved (moved_of_resume h)⟩
  · exact ⟨_, _, _, change_of_feedHost h⟩
  · exact ⟨_, _, _, change_of_feedTransport h⟩
  · cases h
    exact ⟨_, _, _, .nothing⟩

/-- Every change keeps a state sound. -/
theorem Sound.change {s t : State} (h : Sound s) (c : Change s t) : Sound t := by
  cases c with
  | moved m => exact h.keep m
  | started op x => exact h.start op x
  | named c0 c1 => exact h.inWorld (world := selectCode c0 c1 s) h.skipEmpty
  | arrived bytes => exact h.inWorld (noByteSkipped_receive bytes h.skipEmpty)
  | settled a => exact h.inWorld (world := settle a s) h.skipEmpty
  | reset => exact h.after_blockReset
  | nothing => exact h

/-- No change writes the configuration. -/
theorem Change.cfg {s t : State} (c : Change s t) : t.cfg = s.cfg := by
  cases c with
  | moved m => exact m.sameLatches.cfg
  | started op x => simp
  | reset => obtain ha | ⟨pkt, ha⟩ | ⟨n, ha⟩ := abandon_cases s <;> simp [blockReset, ha]
  | _ => rfl

/-- A move only appends to the outbound stream. -/
theorem Moved.outbound_grows {s t : State} (m : Moved s t) :
    ∃ p, t.outbound = s.outbound ++ p := by
  cases m with
  | unwritten | written => exact ⟨_, rfl⟩
  | filled =>
    rw [afterFill_eq]
    exact ⟨[], (List.append_nil _).symm⟩
  | _ => exact ⟨[], (List.append_nil _).symm⟩

/-- Every change only appends to the outbound stream. -/
theorem Change.outbound_grows {s t : State} (c : Change s t) :
    ∃ p, t.outbound = s.outbound ++ p := by
  cases c with
  | moved m => exact m.outbound_grows
  | started op x => exact ⟨[], by simp⟩
  | reset =>
    obtain ha | ⟨pkt, ha⟩ | ⟨n, ha⟩ := abandon_cases s <;> rw [blockReset, ha]
    · exact ⟨[], (List.append_nil _).symm⟩
    · exact ⟨_, rfl⟩
    · exact ⟨[], (List.append_nil _).symm⟩
  | _ => exact ⟨[], (List.append_nil _).symm⟩

/-! ### Faults -/

/-- No instruction faults. -/
theorem exec_ne_fault (i : Instr) (s : State) (r : Fault) : exec i s ≠ .fault r := by
  obtain ⟨op, -, -, h⟩ | ⟨-, -, h⟩ | ⟨-, c0, c1, h⟩ | ⟨-, bytes, h⟩ := exec_cases i s <;> rw [h] <;>
    exact nofun

/-- No input of the transport faults. -/
theorem feedTransport_ne_fault (x : TransportInput) (s : State) (r : Fault) :
    feedTransport x s ≠ .fault r := by
  unfold feedTransport
  split
  · split
    · exact exec_ne_fault _ s r
    · exact nofun
  · exact nofun
  · exact nofun

/-- Of the host's inputs only a reading of RES without a value faults. -/
theorem feedHost_fault {x : HostInput} {s : State} {r : Fault} (h : feedHost x s = .fault r) :
    x = .readRes ∧ hostReadRes s = .fault r := by
  unfold feedHost at h
  split at h
  · split at h
    · exact absurd h (exec_ne_fault _ s r)
    · cases h
  · cases h
  · split at h
    · cases h
    · rename_i hr
      cases h
      exact ⟨rfl, hr⟩
    · cases h
  · split at h
    · cases h
    · rename_i hr
      unfold hostReadMessage at hr
      split at hr <;> cases hr
    · cases h

/-- In good order, RES can be read exactly when it has a value. -/
theorem Orderly.hostReadRes_eq {s : State} (h : Orderly s) :
    hostReadRes s = match s.res with
      | some w => .next w
      | none => .fault .resNoValue := by
  cases hres : s.res with
  | none => simp [hostReadRes, hres]
  | some w =>
    obtain ⟨hd, hst, -⟩ := h.resAccepted w hres
    simp [hostReadRes, hres, hd, hst]

/-- An instruction on a busy framer leaves the latches: a START, which would write them, is refused. -/
theorem sameLatches_of_exec {i : Instr} {s t : State} (hp : s.phase ≠ .idle)
    (h : exec i s = .next t) : SameLatches s t := by
  obtain ⟨op, -, hidle, -⟩ | ⟨-, -, he⟩ | ⟨-, c0, c1, he⟩ | ⟨-, bytes, he⟩ := exec_cases i s
  · exact absurd hidle hp
  · cases h.symm.trans he
  · cases h.symm.trans he
    exact ⟨rfl, rfl, rfl, rfl, rfl, rfl⟩
  · cases h.symm.trans he
    exact ⟨rfl, rfl, rfl, rfl, rfl, rfl⟩

/-! ### The statements -/

/-- Settles O8: soundness does not speak of the lists a step uses up, and every change keeps it. -/
theorem stepKeepsInvariant : Obligations.StepKeepsInvariant := by
  intro s t h hstep
  obtain ⟨program, wire, turns, c⟩ := change_of_step hstep
  exact (h.inWorld (world := { s with program := program, wire := wire, turns := turns })
    h.skipEmpty).change c

/-- Settles O11: a sound framer has a move, and no input but the reading of an empty RES faults. -/
theorem onlyAnEmptyResReadFaults : Obligations.OnlyAnEmptyResReadFaults := by
  intro s r h hstep
  obtain ⟨-, -, hs⟩ | ⟨hn, x, rest, hprog, -, hs⟩ | ⟨-, x, rest, -, hs⟩ | ⟨-, hs⟩ := step_eq s <;>
    rw [hs] at hstep
  · obtain ⟨t, -, ht⟩ := exists_moved (s := passTurn s) h.phaseFit
    cases hstep.symm.trans ht
  · obtain ⟨rfl, hread⟩ := feedHost_fault hstep
    have hfault : hostReadRes s = .fault r := hread
    rw [h.orderly.hostReadRes_eq] at hfault
    cases hres : s.res with
    | none =>
      rw [hres] at hfault
      cases hfault
      exact ⟨rfl, rfl, hn, by rw [hprog]; rfl⟩
    | some w =>
      rw [hres] at hfault
      cases hfault
  · exact absurd hstep (feedTransport_ne_fault x _ r)
  · cases hstep

/-- From a sound state a step does not find the sequencer at a place its operation does not take. -/
theorem Sound.step_ne_strayPhase {s : State} (h : Sound s) : step s ≠ .fault .strayPhase := by
  intro hstep
  cases (onlyAnEmptyResReadFaults s _ h hstep).1

/-- Nor does a run of any length. -/
theorem Sound.run_ne_strayPhase (k : Nat) {s : core.State} (h : Sound s) :
    Host.Core.run core k s ≠ .fault Fault.strayPhase := by
  induction k generalizing s with
  | zero => exact nofun
  | succ k ih =>
    unfold Host.Core.run
    split
    · rename_i t hstep
      exact ih (stepKeepsInvariant s t h hstep)
    · rename_i r hstep
      intro hr
      cases hr
      exact h.step_ne_strayPhase hstep
    · exact nofun

/-- Settles O10, by induction on the run with the invariant. -/
theorem everyRunIsSafe : Obligations.EveryRunIsSafe := fun _ _ h k _ => h.run_ne_strayPhase k

/-- Settles O9: the registers are clear and nothing has arrived. -/
theorem resetMeetsInvariant : Obligations.ResetMeetsInvariant :=
  (Clear.orderly (s := State.reset) ⟨rfl, rfl, rfl, rfl⟩ (Nat.zero_le _) nofun rfl nofun).sound
    List.length_replicate (.inl rfl)

/-- Settles O12, from what a step changes. -/
theorem configurationNeverChanges : Obligations.ConfigurationNeverChanges := by
  intro s t hstep
  obtain ⟨program, wire, turns, c⟩ := change_of_step hstep
  exact c.cfg

/-- Settles O14, from what a step changes. -/
theorem outboundStreamOnlyGrows : Obligations.OutboundStreamOnlyGrows := by
  intro s t hstep
  obtain ⟨program, wire, turns, c⟩ := change_of_step hstep
  exact c.outbound_grows

/-- Settles O13: neither a move nor an instruction on a busy framer writes a latch. -/
theorem latchesHoldWhileBusy : Obligations.LatchesHoldWhileBusy := by
  intro s t hp h
  suffices SameLatches s t from ⟨this.opsel, this.code0, this.code1, this.arg0, this.arg1⟩
  obtain h | ⟨i, h⟩ | ⟨x, hx, h⟩ | ⟨x, h⟩ := h
  · exact (moved_of_resume h).sameLatches
  · exact sameLatches_of_exec hp h
  · obtain ⟨-, -, i, -, -, he⟩ | ⟨hreset, -⟩ | ⟨-, rfl⟩ := feedHost_next h
    · exact sameLatches_of_exec hp he
    · exact absurd hreset hx
    · exact ⟨rfl, rfl, rfl, rfl, rfl, rfl⟩
  · obtain ⟨-, -, i, -, -, he⟩ | ⟨bytes, -, rfl⟩ | ⟨a, -, rfl⟩ := feedTransport_next h
    · exact sameLatches_of_exec hp he
    · exact ⟨rfl, rfl, rfl, rfl, rfl, rfl⟩
    · exact ⟨rfl, rfl, rfl, rfl, rfl, rfl⟩

/-- Settles O59: RES has a value exactly after a read operation that ended OK. -/
theorem resReadableExactlyAfterASuccessfulRead :
    Obligations.ResReadableExactlyAfterASuccessfulRead := by
  intro s h
  rw [h.orderly.hostReadRes_eq]
  cases hres : s.res with
  | none =>
    refine ⟨⟨nofun, fun ⟨hd, hst, hop⟩ => ?_⟩, fun _ => rfl⟩
    obtain ⟨n, hn⟩ := Option.ne_none_iff_exists'.mp hop
    obtain ⟨w, hw⟩ := h.resGiven n hd hst hn
    cases hres.symm.trans hw
  | some w =>
    obtain ⟨hd, hst, hop, -⟩ := h.resAccepted w hres
    exact ⟨⟨fun _ => ⟨hd, hst, by simp [hop]⟩, fun _ => ⟨w, rfl⟩⟩, fun hne => absurd rfl (hne w)⟩

end Sys2Proof.Machine
end

section
/-! The Command Encoder (rules R40, R130 to R136): START of every operation, and how the writing ones
end. -/

namespace Sys2Proof.Machine

/-! ### The one move of a writing operation -/

/-- The state after the START of `op` with the operands `x`. -/
abbrev started (op : OpSel) (x : Operands) (s : State) : State := prepare op (latch op x s)

section
variable {op : OpSel} {x : Operands} {s : State}

/-- On an answering transport the packet is sent and the operation ends OK. -/
theorem moves_written (hop : firstPhase op = .write) (ha : s.answers.head? = some .ok) :
    moves 1 (started op x s) =
      .next (finish .ok (sentWrite (packet (started op x s)) (started op x s))) := by
  have m : Moved (started op x s) _ :=
    .written (by simpa using hop) (by simpa using hop) (by simpa using ha)
  exact m.moves_succ 0

/-- On a failing transport the operation ends with its own error. -/
theorem moves_unwritten (hop : firstPhase op = .write) (ha : s.answers.head? = some .fail) :
    moves 1 (started op x s) =
      .next (finish (transportError op) (failedWrite (packet (started op x s)) (started op x s))) := by
  have m : Moved (started op x s) _ :=
    .unwritten (by simpa using hop) (by simpa using hop) (by simpa using ha)
  rw [prepare_opsel, latch_opsel] at m
  exact m.moves_succ 0

end

/-! ### The statements -/

/-- Settles O16: START on an idle framer is the latching, and the writing operations serialize their
packet. -/
theorem startLatchesOperands : Obligations.StartLatchesOperands := by
  intro i op c0 c1 a0 a1 x s hmem hx hp
  simp only [List.mem_cons, List.not_mem_nil, Prod.mk.injEq, or_false] at hmem
  rcases hmem with ⟨rfl, rfl⟩ | ⟨rfl, rfl⟩ | ⟨rfl, rfl⟩ | ⟨rfl, rfl⟩ | ⟨rfl, rfl⟩ | ⟨rfl, rfl⟩ |
    ⟨rfl, rfl⟩ <;> obtain rfl | ⟨rfl, rfl, rfl, rfl, rfl⟩ := hx <;> exact startThen_idle hp

/-- Settles O18: START, then the one write. -/
theorem wrcmdSendsABarePacket : Obligations.WrcmdSendsABarePacket := by
  intro x s rest hp ha
  obtain rfl : rest = s.answers.tail := by rw [ha]; rfl
  exact ⟨_, exec_begins_idle rfl hp, moves_written rfl (by rw [ha]; rfl)⟩

/-- Settles O19: START, then the one write. -/
theorem wrargSendsAnArgumentPacket : Obligations.WrargSendsAnArgumentPacket := by
  intro x s rest hp ha
  obtain rfl : rest = s.answers.tail := by rw [ha]; rfl
  exact ⟨_, exec_begins_idle rfl hp, moves_written rfl (by rw [ha]; rfl)⟩

/-- Settles O55: the packet rows are the START of the operation that writes them. -/
theorem outboundPacketsAreWrittenByTheirOperation :
    Obligations.OutboundPacketsAreWrittenByTheirOperation := by
  intro c d a b s rest hp ha
  obtain rfl : rest = s.answers.tail := by rw [ha]; rfl
  have hok : s.answers.head? = some .ok := by rw [ha]; rfl
  exact ⟨⟨_, exec_begins_idle rfl hp, moves_written rfl hok⟩,
    ⟨_, exec_begins_idle rfl hp, moves_written rfl hok⟩⟩

/-- Settles O20: the one write fails, and how much of the packet was sent is a draw within its length. -/
theorem failedWriteIsReportedOnce : Obligations.FailedWriteIsReportedOnce := by
  intro x s rest hp ha
  obtain rfl : rest = s.answers.tail := by rw [ha]; rfl
  have hfail : s.answers.head? = some .fail := by rw [ha]; rfl
  exact ⟨⟨_, _, drawUpTo_le 3 s, exec_begins_idle rfl hp, moves_unwritten rfl hfail⟩,
    ⟨_, _, drawUpTo_le 5 s, exec_begins_idle rfl hp, moves_unwritten rfl hfail⟩⟩

end Sys2Proof.Machine
end

section
/-! The response and info decoders (rules R140 to R151, R190 to R196): the whole state in which a read
operation ends, and the statements on RDHDR, RDPRM, RDMOTOR, RDRATE and on failed reads. -/

namespace Sys2Proof.Machine

/-! ### The state in which a read operation ends -/

/-- The state after START, a read that took the packet `w` and left `more`, and an end whose status and
result are still to be written. -/
def endedRead (op : OpSel) (x : Operands) (s : State) (w more : List Byte) : State :=
  { latch op x s with
    buf := w ++ s.buf.drop w.length
    inbound := more
    answers := s.answers.tail
    consumed := w.length
    done := true
    phase := .idle }

/-- The state in which the packet `w` is checked. -/
def filledWith (op : OpSel) (x : Operands) (s : State) (w : List Byte) : State :=
  toPhase .check (setBuf w (takenRead w.length (latch op x s)))

section
variable {op : OpSel} {x : Operands} {s : State} {w more : List Byte}

/-- An error after the read leaves no result. -/
theorem finish_filledWith_error (hin : s.inbound = w ++ more) {st : Status} (hst : st ≠ .ok) :
    finish st (filledWith op x s w) = { endedRead op x s w more with status := st } := by
  simp [finish, hst, endedRead, filledWith, toPhase, setBuf, takenRead, hin]

/-- A success makes the packet the result. -/
theorem finish_filledWith_ok (hin : s.inbound = w ++ more) (hop : readLen s.cfg op = some w.length) :
    finish .ok (filledWith op x s w) =
      { endedRead op x s w more with status := .ok, res := some w, resLen := w.length } := by
  simp [finish, hop, endedRead, filledWith, toPhase, setBuf, takenRead, hin]

end

/-! ### RDHDR and RDPRM -/

/-- The echo of a packet of two bytes or more, as two equations. -/
theorem echoOk_cons_iff (c d c0 c1 : Byte) (tail : List Byte) :
    echoOk (c :: d :: tail) c0 c1 = true ↔ c = c0 ∧ d = c1 := by
  simp [echoOk, byteAt]

section
variable {x : Operands} {s : State} {i : Instr} {op : OpSel}
  {readError checksumError echoError : Status}

/-- The packets of the two response decoders have five bytes, and their errors are no success. -/
theorem ResponseDecoder.errors (hi : ResponseDecoder x i op readError checksumError echoError)
    (cfg : Config) : readLen cfg op = some 5 ∧ checksumError ≠ .ok ∧ echoError ≠ .ok := by
  cases hi with
  | rdhdr => exact ⟨rfl, nofun, nofun⟩
  | rdprm => exact ⟨rfl, nofun, nofun⟩

/-- The whole next state after the read, the checksum deciding before the echo. -/
theorem ResponseDecoder.decides
    (hi : ResponseDecoder x i op readError checksumError echoError) {rest : List Answer}
    {c d p q k : Byte} {more : List Byte}
    (ha : s.answers = .ok :: rest) (hin : s.inbound = [c, d, p, q, k] ++ more) :
    moves 2 (latch op x s) = .next
      (if k.toNat ≠ hdrChk p q then
        { endedRead op x s [c, d, p, q, k] more with status := checksumError }
      else if ¬(c = operandCode0 x s ∧ d = operandCode1 x s) then
        { endedRead op x s [c, d, p, q, k] more with status := echoError }
      else
        { endedRead op x s [c, d, p, q, k] more with
          status := .ok, res := some [c, d, p, q, k], resLen := 5 }) := by
  obtain ⟨hlen, hchk, hecho⟩ := hi.errors s.cfg
  have hst : responseStatus checksumError echoError [c, d, p, q, k] (operandCode0 x s)
      (operandCode1 x s) =
      if k.toNat ≠ hdrChk p q then checksumError
      else if ¬(c = operandCode0 x s ∧ d = operandCode1 x s) then echoError else .ok := by
    simp only [responseStatus, hdrChkOk_iff, echoOk_cons_iff, ne_eq]
  rw [hi.moves_ok ha hin, hst]
  refine congrArg _ ?_
  split_ifs
  · exact finish_filledWith_error hin hchk
  · exact finish_filledWith_ok hin hlen
  · exact finish_filledWith_error hin hecho

/-- A wrong checksum ends the decoder with its checksum error. -/
theorem ResponseDecoder.wrongChecksum
    (hi : ResponseDecoder x i op readError checksumError echoError) {rest : List Answer}
    {c d p q k : Byte} {more : List Byte} (hp : s.phase = .idle)
    (ha : s.answers = .ok :: rest) (hin : s.inbound = [c, d, p, q, k] ++ more)
    (hchk : k.toNat ≠ hdrChk p q) :
    ∃ u t, exec i s = .next u ∧ moves 2 u = .next t ∧ t.done = true ∧ t.status = checksumError := by
  refine ⟨_, _, hi.exec_eq hp, hi.decides ha hin, ?_⟩
  rw [if_pos hchk]
  exact ⟨rfl, rfl⟩

end

/-! ### RDMOTOR and RDRATE -/

section
variable {x : Operands} {s : State} {i : Instr} {op : OpSel} {len : Config → Nat}
  {readError echoError : Status}

/-- The packet length is the operation's, and the echo error is no success. -/
theorem InfoDecoder.errors (hi : InfoDecoder x i op len readError echoError) (cfg : Config) :
    readLen cfg op = some (len cfg) ∧ echoError ≠ .ok := by
  cases hi with
  | rdmotor => exact ⟨rfl, nofun⟩
  | rdrate => exact ⟨rfl, nofun⟩

/-- The whole next state after the read, the echo alone deciding. -/
theorem InfoDecoder.decides (hi : InfoDecoder x i op len readError echoError) {rest : List Answer}
    {c d : Byte} {payload more : List Byte} (hlen : payload.length + 2 = len s.cfg)
    (ha : s.answers = .ok :: rest) (hin : s.inbound = c :: d :: (payload ++ more)) :
    moves 2 (latch op x s) = .next
      (if c = operandCode0 x s ∧ d = operandCode1 x s then
        { endedRead op x s (c :: d :: payload) more with
          status := .ok, res := some (c :: d :: payload), resLen := payload.length + 2 }
      else { endedRead op x s (c :: d :: payload) more with status := echoError }) := by
  have hin : s.inbound = (c :: d :: payload) ++ more := hin
  obtain ⟨hop, hecho⟩ := hi.errors s.cfg
  have hfill : fillMove (len s.cfg) readError id (latch op x s) =
      filledWith op x s (c :: d :: payload) :=
    hlen ▸ fillMove_ok (w := c :: d :: payload) (rest := rest) (more := more) ha hin
  have hcheck : resume (filledWith op x s (c :: d :: payload)) = _ := hi.resume_check rfl rfl
  rw [moves_succ_of hi.resume_latch, hfill, moves_succ_of hcheck, moves_zero]
  have hst : infoStatus echoError (filledWith op x s (c :: d :: payload)).buf
      (operandCode0 x s) (operandCode1 x s) =
      if c = operandCode0 x s ∧ d = operandCode1 x s then .ok else echoError :=
    if_congr (echoOk_cons_iff c d _ _ _) rfl rfl
  refine (congrArg (fun st => Host.Outcome.next (finish st _)) hst).trans (congrArg _ ?_)
  split_ifs
  · exact finish_filledWith_ok hin (hop.trans (congrArg some hlen.symm))
  · exact finish_filledWith_error hin hecho

end

/-! ### A first read that fails -/

/-- The end of an operation with an error leaves no result. -/
theorem finish_error {st : Status} (h : st ≠ .ok) (s : State) :
    finish st s =
      { s with status := st, done := true, phase := .idle, res := none, resLen := 0 } := by
  simp [finish, h]

/-- It ends its operation with the transport error, a draw within the packet's length lost. -/
theorem moves_unfilled {op : OpSel} {x : Operands} {s : State} {n : Nat}
    (hop : readLen s.cfg op = some n) (ha : s.answers.head? = some .fail) :
    moves 1 (latch op x s) = .next (finish (transportError op) (failedRead n (latch op x s))) := by
  have m : Moved (latch op x s) _ := .unfilled (firstPhase_of_readLen hop) hop ha
  exact m.moves_succ 0

/-! ### The laws of the header checksum (rules R141, R148) -/

/-- Flipping bits above the low six of a status byte does not change the checksum. -/
theorem hdrChk_xor_high {m : Byte} (hm : m.toNat % 2 ^ 6 = 0) {a b : Byte} :
    hdrChk (a ^^^ m) b = hdrChk a b := by
  have hlow : (a ^^^ m).toNat % 2 ^ 6 = a.toNat % 2 ^ 6 := by
    rw [BitVec.toNat_xor, Nat.xor_mod_two_pow, hm, Nat.xor_zero]
  rw [hdrChk_eq_mod, hdrChk_eq_mod]
  omega

/-! ### The statements -/

/-- Settles O24, from the ending of the two response decoders. -/
theorem rdhdrDecides : Obligations.RdhdrDecides := by
  intro x s rest c d p q k more hp ha hin
  obtain rfl : rest = s.answers.tail := by rw [ha]; rfl
  exact ⟨_, ResponseDecoder.rdhdr.exec_eq hp, ResponseDecoder.rdhdr.decides ha hin⟩

/-- Settles O25, from the ending of the two response decoders. -/
theorem rdprmDecides : Obligations.RdprmDecides := by
  intro x s rest c d p q k more hp ha hin
  obtain rfl : rest = s.answers.tail := by rw [ha]; rfl
  exact ⟨_, ResponseDecoder.rdprm.exec_eq hp, ResponseDecoder.rdprm.decides ha hin⟩

/-- Settles O28: the packet's own checksum is another byte, so the computed one differs from it. -/
theorem flippedChecksumIsAChecksumError : Obligations.FlippedChecksumIsAChecksumError := by
  intro x s rest p q k k' more hp ha hin hchk hne
  have hk : k'.toNat ≠ hdrChk p q := by
    rw [← (hdrChkOk_iff _ _ p q k).mp hchk]
    exact mt BitVec.eq_of_toNat_eq hne
  exact ⟨ResponseDecoder.rdhdr.wrongChecksum hp ha hin hk,
    ResponseDecoder.rdprm.wrongChecksum hp ha hin hk⟩

/-- Settles O29, from the ending of the two info decoders. -/
theorem rdmotorDecides : Obligations.RdmotorDecides := by
  intro x s rest c d payload more hp ha hlen hin
  obtain rfl : rest = s.answers.tail := by rw [ha]; rfl
  exact ⟨_, InfoDecoder.rdmotor.exec_eq hp,
    InfoDecoder.rdmotor.decides (congrArg (· + 2) hlen) ha hin⟩

/-- Settles O30, from the ending of the two info decoders. -/
theorem rdrateDecides : Obligations.RdrateDecides := by
  intro x s rest c d payload more hp ha hlen hin
  obtain rfl : rest = s.answers.tail := by rw [ha]; rfl
  exact ⟨_, InfoDecoder.rdrate.exec_eq hp,
    InfoDecoder.rdrate.decides (congrArg (· + 2) hlen) ha hin⟩

/-- Settles O32: each read operation fails with its own error, and a draw of the stream is lost. -/
theorem failedReadEndsTheOperation : Obligations.FailedReadEndsTheOperation := by
  intro x s rest i op n err hp ha hmem
  obtain rfl : rest = s.answers.tail := by rw [ha]; rfl
  have hfail : s.answers.head? = some .fail := by rw [ha]; rfl
  obtain ⟨hexec, hop, rfl, hne⟩ : exec i s = startThen op x id s ∧ readLen s.cfg op = some n ∧
      transportError op = err ∧ transportError op ≠ .ok := by
    simp only [List.mem_cons, List.not_mem_nil, Prod.mk.injEq, or_false] at hmem
    rcases hmem with ⟨rfl, rfl, rfl, rfl⟩ | ⟨rfl, rfl, rfl, rfl⟩ | ⟨rfl, rfl, rfl, rfl⟩ |
      ⟨rfl, rfl, rfl, rfl⟩ | ⟨rfl, rfl, rfl, rfl⟩ <;> exact ⟨rfl, rfl, rfl, nofun⟩
  refine ⟨_, drawUpTo n s, drawUpTo_le n s, hexec.trans (startThen_idle hp),
    (moves_unfilled hop hfail).trans (congrArg _ ?_)⟩
  rw [finish_error hne]
  rfl

/-- Settles O23: the checksum is the sum modulo 64, to which the two high bits of a byte add nothing. -/
theorem headerChecksumLaws : Obligations.HeaderChecksumLaws := by
  refine ⟨fun a b a' b' => ?_, fun a b => ⟨?_, hdrChk_xor_high rfl, hdrChk_xor_high rfl, ?_⟩,
    rfl, rfl, rfl, rfl⟩
  · rw [hdrChk_eq_mod, hdrChk_eq_mod]
    omega
  · rw [hdrChk, Nat.add_comm a.toNat, hdrChk]
  · rw [hdrChk_eq_mod, Nat.and_two_pow_sub_one_eq_mod _ 6, BitVec.toNat_add]
    omega

end Sys2Proof.Machine
end

section
/-! Every operation (rules R64, R72, R74, R165, R220): what its moves keep of the table of outcomes, of the
two streams and of the answers, and the statements on that. -/

namespace Sys2Proof.Machine

/-! ### START and any number of moves -/

/-- An instruction that begins an operation selects an assigned one. -/
theorem firstPhase_of_begins {i : Instr} {op : OpSel} (h : begins i = some op) :
    firstPhase op ≠ .idle := by
  cases i <;> cases h <;> decide

section
variable {i : Instr} {op : OpSel} {s u t : State} {n : Nat}

/-- What holds after START and is kept by every move holds after START and any number of moves. -/
theorem begun_induct {P : State → Prop} (hb : begins i = some op) (hexec : exec i s = .next u)
    (hm : moves n u = .next t) (start : ∀ x, P (started op x s))
    (keep : ∀ s t, P s → Moved s t → P t) : P t := by
  obtain ⟨-, x, rfl⟩ := exec_begins_next hb hexec
  exact moved_induct keep (start x) hm

/-- The operation and the configuration stay. -/
theorem sameLatches_of_begun (hb : begins i = some op) (hexec : exec i s = .next u)
    (hm : moves n u = .next t) : t.cfg = s.cfg ∧ t.opsel = op := by
  have hlatches := sameLatches_of_moves hm
  obtain ⟨-, x, rfl⟩ := exec_begins_next hb hexec
  exact ⟨by simpa using hlatches.cfg, by simpa using hlatches.opsel⟩

/-- The registers are in good order. -/
theorem orderly_of_begun (hb : begins i = some op) (hexec : exec i s = .next u)
    (hm : moves n u = .next t) : Orderly t :=
  begun_induct hb hexec hm (orderly_start op · s) Orderly.keep

end

/-! ### The two streams (rules R64, R72, R74) -/

/-- A writing operation takes no byte. -/
theorem Moved.inbound_of_write {s t : State} (m : Moved s t) (hop : firstPhase s.opsel = .write) :
    t.inbound = s.inbound ∧ t.consumed = s.consumed := by
  cases m with
  | unfilled _ hn | filled _ hn => cases hop.symm.trans (firstPhase_of_readLen hn)
  | unshifted _ ho | shifted _ ho => simp [ho, firstPhase] at hop
  | _ => exact ⟨rfl, rfl⟩

/-- A reading operation sends none. -/
theorem Moved.outbound_of_read {s t : State} (m : Moved s t) (hop : firstPhase s.opsel ≠ .write) :
    t.outbound = s.outbound := by
  cases m with
  | unwritten _ hw | written _ hw => exact absurd hw hop
  | filled => rw [afterFill_eq]; rfl
  | _ => rfl

/-- The bytes behind the first `consumed` of `stream` are those not taken yet, and no transaction is
settled on `Fail`. -/
structure TakenInOrder (stream : List Byte) (s : State) : Prop where
  noFail : .fail ∉ s.answers
  le : s.consumed ≤ stream.length
  inbound : s.inbound = stream.drop s.consumed

/-- A read of bytes that are there takes the next ones. -/
theorem TakenInOrder.takenRead {stream : List Byte} {s : State} (h : TakenInOrder stream s) {n : Nat}
    (hn : n ≤ s.inbound.length) : TakenInOrder stream (takenRead n s) where
  noFail := mt List.mem_of_mem_tail h.noFail
  le := by
    have hle := h.le
    rw [h.inbound, List.length_drop] at hn
    show s.consumed + n ≤ stream.length
    omega
  inbound := by
    show s.inbound.drop n = stream.drop (s.consumed + n)
    rw [h.inbound, List.drop_drop]

/-- Without a failure every move takes bytes in order. -/
theorem TakenInOrder.keep {stream : List Byte} (s t : State) (h : TakenInOrder stream s)
    (m : Moved s t) : TakenInOrder stream t := by
  have hfail : s.answers.head? ≠ some .fail := mt List.mem_of_mem_head? h.noFail
  cases m with
  | unwritten _ _ ha | unfilled _ _ ha | unshifted _ _ ha => exact absurd ha hfail
  | filled _ _ _ hn =>
    rw [afterFill_eq]
    have htaken := h.takenRead hn
    exact ⟨htaken.noFail, htaken.le, htaken.inbound⟩
  | shifted _ _ _ hn =>
    have htaken := h.takenRead hn
    exact ⟨htaken.noFail, htaken.le, htaken.inbound⟩
  | written => exact ⟨mt List.mem_of_mem_tail h.noFail, h.le, h.inbound⟩
  | _ => exact ⟨h.noFail, h.le, h.inbound⟩

/-! ### The number of transactions (rules R72, R165) -/

/-- Of the answers there at START an operation has used `used`: none before its first transaction, then one
and one per shift, and one more when a refill failed. -/
structure Spent (answers used : List Answer) (s : State) : Prop where
  split : answers = used ++ s.answers
  noShift : s.opsel ≠ .rdscan → s.shifts = 0
  first : s.phase = .write ∨ s.phase = .fill → used = [] ∧ s.shifts = 0
  between : s.phase = .check ∨ s.phase = .refill → used.length = s.shifts + 1
  ended : s.phase = .idle → used.length = s.shifts + 1 ∨
    (s.opsel = .rdscan ∧ .fail ∈ used ∧ used.length = s.shifts + 2 ∧ s.shifts < s.cfg.maxShifts)

/-- The answer at the head moves to the used ones. -/
theorem split_used {answers used left : List Answer} {a : Answer} (h : answers = used ++ left)
    (ha : left.head? = some a) : answers = (used ++ [a]) ++ left.tail := by
  rw [h, List.append_assoc, List.singleton_append, List.cons_head?_tail ha]

/-- Every move keeps the count. -/
theorem Spent.keep {answers used : List Answer} {s t : State} (h : Spent answers used s)
    (horder : Orderly s) (m : Moved s t) : ∃ used', Spent answers used' t := by
  cases m with
  | stays => exact ⟨used, h⟩
  | unwritten hp _ ha | written hp _ ha =>
    obtain ⟨rfl, hshifts⟩ := h.first (.inl hp)
    exact ⟨_, split_used h.split ha, h.noShift, by simp, by simp, fun _ => .inl (by simp [hshifts])⟩
  | unfilled hp _ ha =>
    obtain ⟨rfl, hshifts⟩ := h.first (.inr hp)
    exact ⟨_, split_used h.split ha, h.noShift, by simp, by simp, fun _ => .inl (by simp [hshifts])⟩
  | filled hp _ ha =>
    obtain ⟨rfl, hshifts⟩ := h.first (.inr hp)
    rw [afterFill_eq]
    exact ⟨_, split_used h.split ha, by simp [hshifts], by simp, by simp [hshifts], by simp⟩
  | checked hp =>
    exact ⟨used, h.split, h.noShift, by simp, by simp, fun _ => .inl (h.between (.inl hp))⟩
  | asked hp ho =>
    exact ⟨used, h.split, h.noShift, by simp, fun _ => h.between (.inl hp), by simp⟩
  | unshifted hp ho ha =>
    have hlen := h.between (.inr hp)
    exact ⟨_, split_used h.split ha, h.noShift, by simp, by simp,
      fun _ => .inr ⟨ho, by simp, by simp [hlen], horder.refillBound hp⟩⟩
  | shifted hp ho ha =>
    have hlen := h.between (.inr hp)
    exact ⟨_, split_used h.split ha, by simp [ho], by simp, fun _ => by simp [hlen], by simp⟩

/-- The count is within the operation's bound. -/
theorem Spent.length_le {answers used : List Answer} {s : State} (h : Spent answers used s)
    (horder : Orderly s) :
    used.length ≤ s.cfg.maxShifts + 1 ∧ (s.opsel ≠ .rdscan → used.length ≤ 1) := by
  have hbound := horder.shiftsBound
  have hnone := h.noShift
  cases hp : s.phase with
  | write => simp [(h.first (.inl hp)).1]
  | fill => simp [(h.first (.inr hp)).1]
  | check => grind [h.between (.inl hp)]
  | refill => grind [h.between (.inr hp)]
  | idle => grind [h.ended hp]

/-- The count after START and any number of moves. -/
theorem spent_of_begun {i : Instr} {op : OpSel} {s u t : State} {n : Nat} (hb : begins i = some op)
    (hexec : exec i s = .next u) (hm : moves n u = .next t) :
    ∃ used, Spent s.answers used t := by
  have hinv : Orderly t ∧ ∃ used, Spent s.answers used t := by
    refine begun_induct (P := fun t => Orderly t ∧ ∃ used, Spent s.answers used t) hb hexec hm
      (fun x => ⟨orderly_start op x s, [], by simp, by simp, by simp, ?_, ?_⟩)
      (fun s t ⟨horder, used, h⟩ m => ⟨horder.keep s t m, h.keep horder m⟩)
    · cases op <;> simp [firstPhase]
    · intro hp
      exact absurd (by simpa using hp) (firstPhase_of_begins hb)
  exact hinv.2

/-! ### The statements -/

/-- Settles O46: the registers are in good order after every move. -/
theorem outcomesStayInTheTable : Obligations.OutcomesStayInTheTable := by
  intro i op s u t n hb hexec hm hdone
  have horder := orderly_of_begun hb hexec hm
  obtain ⟨hcfg, hop⟩ := sameLatches_of_begun hb hexec hm
  refine ⟨horder.doneIdle hdone, hop, hop ▸ horder.doneStatus hdone, fun hno => ?_⟩
  have hres : t.res = none := by
    rw [Option.eq_none_iff_forall_ne_some]
    intro w hw
    obtain ⟨-, hst, hlen, -⟩ := horder.resAccepted w hw
    rw [hcfg, hop] at hlen
    exact hno.elim (absurd hst) (fun hnone => nomatch hnone.symm.trans hlen)
  exact ⟨hres, horder.resEmpty hres⟩

/-- Settles O44: the result of a scan in good order passed the checks of the window. -/
theorem acceptedRecordIsValid : Obligations.AcceptedRecordIsValid := by
  intro x s u t n hexec hm hdone hst
  have horder := orderly_of_begun (i := .rdscan x) rfl hexec hm
  obtain ⟨hcfg, hop⟩ := sameLatches_of_begun (i := .rdscan x) rfl hexec hm
  have hlen : readLen t.cfg t.opsel = some (recordLen s.cfg) := by rw [hcfg, hop]; rfl
  obtain ⟨w, hw⟩ := horder.resGiven _ hdone hst hlen
  obtain ⟨-, -, hwlen, -, hacc⟩ := horder.resAccepted w hw
  rw [hcfg, hop] at hacc
  obtain ⟨hchk, hs1, hs2⟩ := (scanValid_iff_fields _ w).mp hacc
  exact ⟨w, hw, Option.some.inj (hwlen.symm.trans hlen), hs1, hs2, hchk.symm, scanChk_le w⟩

/-- Settles O49, from the count of the answers used. -/
theorem transactionCountIsBounded : Obligations.TransactionCountIsBounded := by
  intro i op s u t n hb hexec hm
  have horder := orderly_of_begun hb hexec hm
  obtain ⟨hcfg, hop⟩ := sameLatches_of_begun hb hexec hm
  obtain ⟨used, h⟩ := spent_of_begun hb hexec hm
  obtain ⟨hscan, hother⟩ := h.length_le horder
  rw [hcfg] at hscan
  rw [hop] at hother
  have hnone := h.noShift
  rw [hop] at hnone
  refine ⟨used, h.split, ?_, fun hdone hne => ?_, fun hdone _ hfail => ?_⟩
  · split_ifs with hrdscan
    · exact hscan
    · exact hother hrdscan
  · obtain hlen | ⟨ho, -⟩ := h.ended (horder.doneIdle hdone)
    · rw [hlen, hnone hne]
    · exact absurd (hop.symm.trans ho) hne
  · obtain hlen | ⟨-, hmem, -⟩ := h.ended (horder.doneIdle hdone)
    · exact hlen
    · exact absurd hmem hfail

/-- Settles O50: each direction has its own phases. -/
theorem operationsNeverMixDirections : Obligations.OperationsNeverMixDirections := by
  intro i op s u t n hb hexec hm
  constructor
  · intro hop
    have hwrite := firstPhase_eq_write.mpr hop
    have hinv : t.opsel = op ∧ t.inbound = s.inbound ∧ t.consumed = 0 :=
      begun_induct (P := fun t => t.opsel = op ∧ t.inbound = s.inbound ∧ t.consumed = 0)
        hb hexec hm (fun x => by simp) fun s t ⟨ho, hin, hc⟩ m => by
          obtain ⟨hin', hc'⟩ := m.inbound_of_write (ho ▸ hwrite)
          exact ⟨m.sameLatches.opsel.trans ho, hin'.trans hin, hc'.trans hc⟩
    exact hinv.2
  · intro hop
    have hread : firstPhase op ≠ .write := by
      rw [Ne, firstPhase_eq_write]
      exact fun h => h.elim hop.1 hop.2
    have hinv : t.opsel = op ∧ t.outbound = s.outbound :=
      begun_induct (P := fun t => t.opsel = op ∧ t.outbound = s.outbound)
        hb hexec hm (fun x => by simp) fun s t ⟨ho, hout⟩ m =>
          ⟨m.sameLatches.opsel.trans ho, (m.outbound_of_read (ho ▸ hread)).trans hout⟩
    exact hinv.2

/-- Settles O51: without a failure every move takes the next bytes. -/
theorem consumedBytesLeaveTheStream : Obligations.ConsumedBytesLeaveTheStream := by
  intro i op s u t n hb hexec hm hfail
  have htaken : TakenInOrder s.inbound t :=
    begun_induct hb hexec hm (fun x => ⟨by simpa using hfail, by simp, by simp⟩) TakenInOrder.keep
  exact ⟨htaken.le, htaken.inbound⟩

end Sys2Proof.Machine
end

section
/-! The scan window as numbers and as fields (rules R95 to R102, R158, R172): the bytes of a window in terms
of their fields and nibbles, and the statements on the scan sum and on reading a record back. -/

namespace Sys2Proof.Machine

/-! ### Bytes in terms of their fields -/

/-- The high nibble is the quotient by 16. -/
theorem hiNibble_toNat (b : Byte) : (hiNibble b).toNat = b.toNat / 16 := by
  have hb := b.isLt
  rw [hiNibble, BitVec.extractLsb'_toNat, Nat.shiftRight_eq_div_pow]
  omega

/-- The mask of the high nibble keeps its multiple of 16. -/
theorem and_high_toNat (b : Byte) : (b &&& 0xF0#8).toNat = 16 * (hiNibble b).toNat := by
  have hb := b.isLt
  have hmask : b >>> 4 <<< 4 = b &&& 0xF0#8 := BitVec.shiftLeft_ushiftRight
  rw [← hmask, hiNibble_toNat, BitVec.toNat_shiftLeft, BitVec.toNat_ushiftRight,
    Nat.shiftRight_eq_div_pow, Nat.shiftLeft_eq]
  omega

/-- A byte is sixteen times its high nibble and its low one. -/
theorem toNat_eq_nibbles (b : Byte) : b.toNat = 16 * (hiNibble b).toNat + (loNibble b).toNat := by
  rw [hiNibble_toNat, loNibble_toNat]
  omega

/-- The first byte of a record is the sum of its four fields at their places (rule R98). -/
theorem toNat_eq_syncFields (b : Byte) (tail : List Byte) :
    ((scanDistanceLow (b :: tail)).toNat <<< 3) + ((scanVhl (b :: tail)).toNat <<< 2)
      + ((scanS2 (b :: tail)).toNat <<< 1) + (scanS1 (b :: tail)).toNat = b.toNat := by
  have hb := b.isLt
  have hlow : (scanDistanceLow (b :: tail)).toNat = b.toNat / 8 % 32 := by
    rw [scanDistanceLow, syncDistanceLow, BitVec.extractLsb'_toNat, Nat.shiftRight_eq_div_pow]
    rfl
  have hvhl : (scanVhl (b :: tail)).toNat = b.toNat / 4 % 2 := by
    rw [scanVhl, syncVhl, BitVec.extractLsb'_toNat, Nat.shiftRight_eq_div_pow]
    rfl
  rw [scanS1_toNat, scanS2_toNat, hlow, hvhl, Nat.shiftLeft_eq, Nat.shiftLeft_eq, Nat.shiftLeft_eq]
  omega

/-- The two bytes of a 16-bit word. -/
theorem append_toNat (hi lo : Byte) : (hi ++ lo : BitVec 16).toNat = 256 * hi.toNat + lo.toNat := by
  rw [BitVec.toNat_append, Nat.shiftLeft_eq, Nat.mul_comm, ← Nat.two_pow_add_eq_or_of_lt lo.isLt]

/-- The terms of the angle are its two bytes, whatever their order. -/
theorem angle_terms (order : AngleOrder) (w : List Byte) :
    ((scanAngle order w).toNat &&& 0xFF) + ((scanAngle order w).toNat >>> 8) =
      (byteAt w 2).toNat + (byteAt w 3).toNat := by
  have h2 := (byteAt w 2).isLt
  have h3 := (byteAt w 3).isLt
  rw [Nat.and_two_pow_sub_one_eq_mod _ 8, Nat.shiftRight_eq_div_pow]
  cases order with
  | le => rw [scanAngle, append_toNat]; omega
  | be => rw [scanAngle, append_toNat]; omega

/-! ### The scan sum (rules R158, R172) -/

/-- The sum is at most that of four bytes and a masked one. -/
theorem scanSum_le (w : List Byte) : scanSum w ≤ 1260 := by
  have h0 := (byteAt w 0).isLt
  have h1 := (byteAt w 1).isLt
  have h2 := (byteAt w 2).isLt
  have h3 := (byteAt w 3).isLt
  have h4 := (hiNibble (byteAt w 4)).isLt
  rw [scanSum, and_high_toNat]
  omega

/-- Sixteen is one modulo 15, so that the nibbles have the sum's remainder. -/
theorem scanChk_eq_nibbleSum (w : List Byte) : scanChk w = nibbleSum w % 15 := by
  rw [scanChk, scanSum, nibbleSum, scanVrect, and_high_toNat, toNat_eq_nibbles (byteAt w 0),
    toNat_eq_nibbles (byteAt w 1), toNat_eq_nibbles (byteAt w 2), toNat_eq_nibbles (byteAt w 3)]
  omega

/-- The checksum of a window written out. -/
theorem scanChk_cons (a b c d e : Byte) (tail : List Byte) :
    scanChk (a :: b :: c :: d :: e :: tail) =
      (a.toNat + b.toNat + c.toNat + d.toNat + (e &&& 0xF0#8).toNat) % 15 := rfl

/-! ### The sync bits of a packed record -/

@[simp] theorem scanS1_packSync (l : BitVec 5) (v : BitVec 1) (tail : List Byte) :
    scanS1 (packSync l v :: tail) = 1#1 :=
  BitVec.extractLsb'_append_eq_of_add_le (by decide)

@[simp] theorem scanS2_packSync (l : BitVec 5) (v : BitVec 1) (tail : List Byte) :
    scanS2 (packSync l v :: tail) = 0#1 :=
  BitVec.extractLsb'_append_eq_of_add_le (by decide)

/-! ### The statements -/

/-- Settles O33: the fields of the first byte, the angle and VRECT each add up to their bytes. -/
theorem scanSumOfFieldsIsSumOfBytes : Obligations.ScanSumOfFieldsIsSumOfBytes := by
  intro order b0 b1 b2 b3 b4 tail w
  refine ⟨?_, rfl, scanSum_le w, rfl⟩
  have hangle := angle_terms order w
  have hsync : ((scanDistanceLow w).toNat <<< 3) + ((scanVhl w).toNat <<< 2)
      + ((scanS2 w).toNat <<< 1) + (scanS1 w).toNat = (byteAt w 0).toNat := toNat_eq_syncFields b0 _
  rw [scanSumOfFields, scanSum, and_high_toNat, hsync, scanDistanceHigh, scanVrect, Nat.shiftLeft_eq]
  omega

/-- Settles O37, from the nibble sum and the sum's own symmetry. -/
theorem scanChecksumLaws : Obligations.ScanChecksumLaws := by
  refine ⟨fun w => ⟨scanChk_le w, scanChk_eq_nibbleSum w⟩, fun w w' h => ?_,
    fun a b c d e tail => ⟨?_, ?_, ?_⟩, rfl, rfl⟩
  · rw [scanChk_eq_nibbleSum, h, scanChk_eq_nibbleSum]
  · rw [scanChk_cons, scanChk_cons, Nat.add_comm a.toNat]
  · rw [scanChk_cons, scanChk_cons, Nat.add_right_comm a.toNat]
  · rw [scanChk_cons, scanChk_cons, Nat.add_right_comm (a.toNat + b.toNat)]

/-- Settles O45: each field is read from the place at which it was packed. -/
theorem scanFieldsReadBack : Obligations.ScanFieldsReadBack := by
  intro cfg l v h a b r y k
  refine ⟨fun hl => ?_, fun hl => ?_⟩
  · cases ho : cfg.angleOrder <;>
      simp [scanRecordOf, packScanL6, scanVhl, scanDistanceLow, scanDistanceHigh, scanAngle, scanVrect,
        scanTxChk, byteAt, hl, ho]
  · cases ho : cfg.angleOrder <;>
      simp [scanRecordOf, packScanL5, scanVhl, scanDistanceLow, scanDistanceHigh, scanAngle, scanVrect,
        scanTxChk, byteAt, hl, ho]

end Sys2Proof.Machine
end

section
/-! RDSCAN (rules R163 to R168, R176): the state of a scan after `k` shifts, the moves from each such state,
and the statements on what a scan returns and where it stops. -/

namespace Sys2Proof.Machine

/-! ### Windows of the stream (rules R25, R166) -/

/-- A window inside the stream has `RECORD_LEN` bytes. -/
theorem windowAt_length {cfg : Config} {stream : List Byte} {k : Nat}
    (h : recordLen cfg + k ≤ stream.length) : (windowAt cfg stream k).length = recordLen cfg := by
  rw [windowAt, List.length_take, List.length_drop]
  omega

/-- The next byte of a stream, read alone. -/
theorem byteAt_next {stream : List Byte} {m : Nat} (h : m < stream.length) :
    byteAt ((stream.drop m).take 1) 0 = stream[m] := by
  rw [byteAt_take (by decide), byteAt, List.getD_eq_getElem?_getD, List.getElem?_drop,
    List.getElem?_eq_getElem (by simpa using h)]
  rfl

/-- The next window has lost its first byte and gained the next one of the stream. -/
theorem windowAt_succ {cfg : Config} {stream : List Byte} {k : Nat}
    (h : recordLen cfg + k < stream.length) :
    windowAt cfg stream (k + 1) =
      (windowAt cfg stream k).drop 1 ++ [byteAt ((stream.drop (recordLen cfg + k)).take 1) 0] := by
  obtain ⟨n, hn⟩ := Nat.exists_eq_add_of_le' (one_le_recordLen cfg)
  rw [hn] at h
  have hlast : n < (stream.drop (k + 1)).length := by rw [List.length_drop]; omega
  have hbyte : (stream.drop (k + 1))[n] = stream[n + 1 + k] := by
    rw [List.getElem_drop]
    congr 1
    omega
  rw [windowAt, windowAt, hn, byteAt_next h, ← hbyte, List.drop_take, List.drop_drop,
    Nat.add_sub_cancel, List.take_append_getElem hlast]

/-! ### The state after `k` shifts -/

/-- RDSCAN after its first read and `k` shifts, about to check the window at offset `k`. -/
def scanning (x : Operands) (s : State) (k : Nat) : State :=
  { latch .rdscan x s with
    buf := windowAt s.cfg s.inbound k ++ s.buf.drop (recordLen s.cfg)
    inbound := s.inbound.drop (recordLen s.cfg + k)
    answers := s.answers.drop (k + 1)
    consumed := recordLen s.cfg + k
    shifts := k
    phase := .check }

section
variable {x : Operands} {s : State} {k : Nat}

/-- The window that is checked is the stream's at offset `k`. -/
theorem window_scanning (hlen : recordLen s.cfg + k ≤ s.inbound.length) :
    window (scanning x s k) = windowAt s.cfg s.inbound k :=
  List.take_left' (windowAt_length hlen)

/-- The first read puts the window at offset 0 in BUF. -/
theorem moved_scanning_zero (ha : s.answers[0]? = some .ok)
    (hlen : recordLen s.cfg ≤ s.inbound.length) :
    Moved (latch .rdscan x s) (scanning x s 0) := by
  have hhead : s.answers.head? = some .ok := List.head?_eq_getElem?.trans ha
  have m : Moved (latch .rdscan x s) _ := .filled rfl rfl hhead hlen
  convert m using 1
  simp [scanning, afterFill, clearShifts, toPhase, setBuf, takenRead, windowAt, hlen]

/-- A valid window ends the scan. -/
theorem moved_scanning_valid (hlen : recordLen s.cfg + k ≤ s.inbound.length)
    (hv : validAt s.cfg s.inbound k = true) :
    Moved (scanning x s k) (finish .ok (scanning x s k)) := by
  refine .checked rfl ?_
  have hw : scanValid s.cfg.scanLayout (window (scanning x s k)) = true := by
    rwa [window_scanning hlen]
  exact if_pos hw

/-- An invalid window at the bound ends it with the bound error. -/
theorem moved_scanning_bound (hlen : recordLen s.cfg + k ≤ s.inbound.length)
    (hv : validAt s.cfg s.inbound k = false) (hk : k = s.cfg.maxShifts) :
    Moved (scanning x s k) (finish .scanBound (scanning x s k)) := by
  refine .checked rfl ?_
  have hw : ¬ scanValid s.cfg.scanLayout (window (scanning x s k)) = true := by
    rw [window_scanning hlen]
    exact Bool.eq_false_iff.mp hv
  exact (if_neg hw).trans (if_pos hk)

/-- An invalid window below the bound asks for a byte. -/
theorem moved_scanning_invalid (hlen : recordLen s.cfg + k ≤ s.inbound.length)
    (hv : validAt s.cfg s.inbound k = false) (hk : k < s.cfg.maxShifts) :
    Moved (scanning x s k) (toPhase .refill (scanning x s k)) := by
  refine .asked rfl rfl ?_
  have hw : ¬ scanValid s.cfg.scanLayout (window (scanning x s k)) = true := by
    rw [window_scanning hlen]
    exact Bool.eq_false_iff.mp hv
  exact (if_neg hw).trans (if_neg (Nat.ne_of_lt hk))

/-- The byte that arrives gives the next window. -/
theorem moved_scanning_succ (ha : s.answers[k + 1]? = some .ok)
    (hlen : recordLen s.cfg + (k + 1) ≤ s.inbound.length) :
    Moved (toPhase .refill (scanning x s k)) (scanning x s (k + 1)) := by
  have m : Moved (toPhase .refill (scanning x s k)) _ :=
    .shifted rfl rfl (by simpa [scanning] using ha) (by simp [scanning]; omega)
  convert m using 1
  have hwin : (windowAt s.cfg s.inbound k ++ s.buf.drop (recordLen s.cfg)).take (recordLen s.cfg) =
      windowAt s.cfg s.inbound k := List.take_left' (windowAt_length (by omega))
  have habove : (windowAt s.cfg s.inbound k ++ s.buf.drop (recordLen s.cfg)).drop (recordLen s.cfg) =
      s.buf.drop (recordLen s.cfg) := List.drop_left' (windowAt_length (by omega))
  have hnext := windowAt_succ (cfg := s.cfg) (stream := s.inbound) (k := k) (by omega)
  simp [scanning, shiftIn, toPhase, takenRead, window, hwin, habove, hnext, Nat.add_assoc]

/-- After START, the first read and `k` shifts, with the windows before offset `k` invalid. -/
theorem moves_scanning (ha : ∀ j ≤ k, s.answers[j]? = some .ok)
    (hlen : recordLen s.cfg + k ≤ s.inbound.length) (hk : k ≤ s.cfg.maxShifts)
    (hv : ∀ j < k, validAt s.cfg s.inbound j = false) :
    moves (2 * k + 1) (latch .rdscan x s) = .next (scanning x s k) := by
  induction k with
  | zero => exact (moved_scanning_zero (ha 0 le_rfl) hlen).moves_succ 0
  | succ k ih =>
    have hbefore := ih (fun j hj => ha j (by omega)) (by omega) (by omega) (fun j hj => hv j (by omega))
    have hask := moved_scanning_invalid (x := x) (k := k) (by omega) (hv k (by omega)) (by omega)
    have hshift := moved_scanning_succ (x := x) (ha (k + 1) le_rfl) hlen
    rw [show 2 * (k + 1) + 1 = (2 * k + 1) + 2 by omega, moves_add hbefore, hask.moves_succ,
      hshift.moves_succ, moves_zero]

/-- And one move more. -/
theorem moves_scanning_end {t : State}
    (h : moves (2 * k + 1) (latch .rdscan x s) = .next (scanning x s k))
    (m : Moved (scanning x s k) t) : moves (2 * k + 2) (latch .rdscan x s) = .next t :=
  (moves_add h).trans (m.moves_succ 0)

end

/-! ### Settled answers (rule R23) -/

/-- The answers settled on `Ok`, one by one. -/
theorem getElem?_okAnswers {answers rest : List Answer} {k : Nat}
    (ha : answers = okAnswers (k + 1) ++ rest) : ∀ j ≤ k, answers[j]? = some .ok := by
  intro j hj
  have hlt : j < (okAnswers (k + 1)).length := by rw [okAnswers, List.length_replicate]; omega
  rw [ha, List.getElem?_append_left hlt, okAnswers, List.getElem?_replicate_of_lt (by omega)]

/-- The answers behind them. -/
theorem drop_okAnswers {answers rest : List Answer} {k : Nat}
    (ha : answers = okAnswers (k + 1) ++ rest) : answers.drop (k + 1) = rest := by
  rw [ha]
  exact List.drop_left' List.length_replicate

/-! ### The statements -/

/-- Settles O41: the induction over the shifts. -/
theorem windowAfterShiftsIsTheStreamAtOffset : Obligations.WindowAfterShiftsIsTheStreamAtOffset := by
  intro x s k rest hp ha hlen hk hv
  have hrest := drop_okAnswers ha
  subst hrest
  exact ⟨_, startThen_idle hp, moves_scanning (getElem?_okAnswers ha) hlen hk hv⟩

/-- Settles O38: the state after `k` shifts, whose valid window ends the scan. -/
theorem rdscanReturnsTheFirstValidWindow : Obligations.RdscanReturnsTheFirstValidWindow := by
  intro x s k rest hp ha hlen hk hv hvalid
  have hrest := drop_okAnswers ha
  subst hrest
  have hscan := moves_scanning (x := x) (getElem?_okAnswers ha) hlen hk hv
  refine ⟨_, startThen_idle hp,
    (moves_scanning_end hscan (moved_scanning_valid hlen hvalid)).trans (congrArg _ ?_)⟩
  have hres : (scanning x s k).buf.take (recordLen s.cfg) = windowAt s.cfg s.inbound k :=
    window_scanning hlen
  have hend : finish .ok (scanning x s k) =
      { scanning x s k with
        status := .ok, done := true, phase := .idle, resLen := recordLen s.cfg
        res := some ((scanning x s k).buf.take (recordLen s.cfg)) } := rfl
  rw [hend, hres]
  rfl

/-- Settles O39: the state after the last permitted shift, whose invalid window ends the scan. -/
theorem rdscanStopsAtTheBound : Obligations.RdscanStopsAtTheBound := by
  intro x s rest hp ha hlen hv
  have hrest := drop_okAnswers ha
  subst hrest
  have hscan := moves_scanning (x := x) (getElem?_okAnswers ha) hlen le_rfl
    fun j hj => hv j (Nat.le_of_lt hj)
  exact ⟨_, startThen_idle hp,
    moves_scanning_end hscan (moved_scanning_bound hlen (hv _ le_rfl) rfl)⟩

/-- Settles O40: the state after `f` shifts asks for a byte, and that read fails. -/
theorem rdscanRefillFailureEndsIt : Obligations.RdscanRefillFailureEndsIt := by
  intro x s f rest hp ha hlen hf hv
  have hleft : (scanning x s f).answers = .fail :: rest := drop_okAnswers ha
  have hscan := moves_scanning (x := x) (getElem?_okAnswers ha) hlen (Nat.le_of_lt hf)
    fun j hj => hv j (Nat.le_of_lt hj)
  have hask := moves_scanning_end hscan (moved_scanning_invalid hlen (hv f le_rfl) hf)
  have hfail : Moved (toPhase .refill (scanning x s f)) _ :=
    .unshifted rfl rfl (by rw [toPhase_answers, hleft]; rfl)
  refine ⟨_, drawUpTo 1 s, drawUpTo_le 1 s, startThen_idle hp,
    (moves_add hask).trans ((hfail.moves_succ 0).trans (congrArg _ ?_))⟩
  rw [finish_error (st := .scanRead) nofun]
  have hdrop : ((scanning x s f).inbound).drop (drawUpTo 1 s) =
      s.inbound.drop (recordLen s.cfg + f + drawUpTo 1 s) := List.drop_drop
  have hlength : (scanning x s f).inbound.length = s.inbound.length - (recordLen s.cfg + f) :=
    List.length_drop
  have htail : (scanning x s f).answers.tail = rest := by rw [hleft]; rfl
  rw [← hdrop, ← hlength, ← htail]
  rfl

/-- Settles O42: the case of one shift. -/
theorem oneGarbageByteCostsOneShift : Obligations.OneGarbageByteCostsOneShift := by
  intro x s g record after rest hp ha hmax hlen hin hvalid hinvalid
  have hw0 : windowAt s.cfg s.inbound 0 = (g :: record).take (recordLen s.cfg) := by
    rw [windowAt, hin, List.drop_zero, ← List.cons_append,
      List.take_append_of_le_length (by rw [List.length_cons]; omega)]
  have hw1 : windowAt s.cfg s.inbound 1 = record := by
    rw [windowAt, hin, List.drop_one, List.tail_cons, List.take_left' hlen]
  have hafter : s.inbound.drop (recordLen s.cfg + 1) = after := by
    rw [hin, List.drop_succ_cons, List.drop_left' hlen]
  obtain ⟨u, hexec, hmoves⟩ := rdscanReturnsTheFirstValidWindow x s 1 rest hp ha
    (by simp [hin]; omega) hmax
    (fun j hj => by
      obtain rfl : j = 0 := by omega
      rwa [validAt, hw0])
    (by rwa [validAt, hw1])
  exact ⟨u, _, hexec, hmoves, rfl, rfl, congrArg some hw1, rfl, rfl, hafter⟩

/-- A window of zeros has the right checksum, and the wrong sync bits. -/
theorem zeros_checks (cfg : Config) :
    scanChkOk cfg.scanLayout (List.replicate (recordLen cfg) 0#8) = true ∧
    scanValid cfg.scanLayout (List.replicate (recordLen cfg) 0#8) = false := by
  cases hl : cfg.scanLayout <;> simp only [recordLen, hl] <;> decide

/-- Settles O43: every window of the line is one of zeros. -/
theorem silentLineExhaustsTheBound : Obligations.SilentLineExhaustsTheBound := by
  intro x s m hp ha hin
  have hw : ∀ j ≤ s.cfg.maxShifts,
      windowAt s.cfg s.inbound j = List.replicate (recordLen s.cfg) 0#8 := by
    intro j hj
    rw [windowAt, hin, List.drop_replicate, List.take_replicate, Nat.min_eq_left (by omega)]
  obtain ⟨hchk, hvalid⟩ := zeros_checks s.cfg
  obtain ⟨u, hexec, hmoves⟩ := rdscanStopsAtTheBound x s [] hp (by rw [ha, List.append_nil])
    (by rw [hin, List.length_replicate]; omega) (fun j hj => by rwa [validAt, hw j hj])
  refine ⟨by rwa [hw 0 (Nat.zero_le _)], u, _, hexec, hmoves, rfl, rfl, rfl, rfl, rfl, ?_⟩
  rw [hin, List.drop_replicate, List.length_replicate]
  omega

end Sys2Proof.Machine
end

section
/-! Waiting and ending (rules R175, R245, R272, R280): how many moves an operation still has, that it ends
when the transport answers, and that answers and bytes which arrive later change nothing. -/

namespace Sys2Proof.Machine

/-! ### How many moves are left -/

/-- The moves that an operation still has at most (rule R165). -/
def movesLeft (s : State) : Nat :=
  match s.phase with
  | .idle => 0
  | .write => 1
  | .fill => 2 * s.cfg.maxShifts + 2
  | .check => 2 * (s.cfg.maxShifts - s.shifts) + 1
  | .refill => 2 * (s.cfg.maxShifts - s.shifts)

/-- A framer that can move has fewer moves left after it. -/
theorem Moved.movesLeft_lt {s t : State} (m : Moved s t) (h : Orderly s) (hm : canMove s = true) :
    movesLeft t < movesLeft s := by
  cases m with
  | stays _ still => cases still.symm.trans hm
  | unwritten hp | written hp | unfilled hp | checked hp => simp [movesLeft, hp]
  | filled hp =>
    rw [afterFill_eq]
    simp only [movesLeft, hp, toPhase_phase, toPhase_cfg, setBuf_cfg, takenRead_cfg]
    omega
  | asked hp => simp [movesLeft, hp]
  | unshifted hp =>
    have hlt := h.refillBound hp
    simp [movesLeft, hp]
    omega
  | shifted hp =>
    have hlt := h.refillBound hp
    simp [movesLeft, hp]
    omega

/-- A framer that can not move stays as it is under any number of moves. -/
theorem moves_still {s : State} (h : Orderly s) (still : canMove s = false) (n : Nat) :
    moves n s = .next s :=
  moves_fixed (Moved.stays h.phaseFit still).resume_eq

/-- After as many moves as an operation has, it can not move. -/
theorem exists_moves_still {n : Nat} {s : State} (h : Orderly s) (hn : movesLeft s ≤ n) :
    ∃ t, moves n s = .next t ∧ Orderly t ∧ canMove t = false := by
  induction n generalizing s with
  | zero =>
    refine ⟨s, rfl, h, Bool.eq_false_iff.mpr fun hm => ?_⟩
    obtain ⟨t, m, -⟩ := exists_moved h.phaseFit
    have hlt := m.movesLeft_lt h hm
    omega
  | succ n ih =>
    cases hm : canMove s with
    | false => exact ⟨s, moves_still h hm _, h, hm⟩
    | true =>
      obtain ⟨v, m, -⟩ := exists_moved h.phaseFit
      have hlt := m.movesLeft_lt h hm
      obtain ⟨t, ht, hlast⟩ := ih (h.keep s v m) (by omega)
      exact ⟨t, (m.moves_succ n).trans ht, hlast⟩

/-- More moves than an operation has change nothing. -/
theorem moves_eq_of_movesLeft_le {m n : Nat} {s : State} (h : Orderly s) (hm : movesLeft s ≤ m)
    (hn : m ≤ n) : moves n s = moves m s := by
  obtain ⟨t, ht, horder, still⟩ := exists_moves_still h hm
  obtain ⟨d, rfl⟩ := Nat.exists_eq_add_of_le hn
  rw [moves_add ht, moves_still horder still, ht]

/-- An operation has at most the moves that `operate` makes. -/
theorem movesLeft_started (op : OpSel) (x : Operands) (s : State) :
    movesLeft (started op x s) ≤ 2 * s.cfg.maxShifts + 2 := by
  cases op <;> simp [movesLeft, firstPhase]

/-! ### A transport that answers every transaction -/

/-- The answers and bytes for all the transactions that are left are there; an ended operation is done. -/
def Supplied (s : State) : Prop :=
  match s.phase with
  | .idle => s.done = true
  | .write => 1 ≤ s.answers.length
  | .fill => s.cfg.maxShifts + 1 ≤ s.answers.length ∧
      bufLen s.cfg + s.cfg.maxShifts ≤ s.inbound.length
  | .check | .refill => s.cfg.maxShifts - s.shifts ≤ s.answers.length ∧
      s.cfg.maxShifts - s.shifts ≤ s.inbound.length

/-- Every move leaves the supply for those after it. -/
theorem Supplied.keep {s t : State} (h : Supplied s) (m : Moved s t) : Supplied t := by
  cases m with
  | stays => exact h
  | filled hp hop =>
    have hfit := readLen_le_bufLen hop
    rw [afterFill_eq]
    simp only [Supplied, hp] at h
    simp [Supplied]
    omega
  | asked hp => simpa [Supplied, hp] using h
  | shifted hp =>
    simp only [Supplied, hp] at h
    simp [Supplied]
    omega
  | unwritten | written | unfilled | checked | unshifted => rfl

/-- A read with an answer settled and its bytes there is answered. -/
theorem readAnswered_of_length {n : Nat} {s : State} (ha : 1 ≤ s.answers.length)
    (hn : n ≤ s.inbound.length) : readAnswered n s = true := by
  rcases h : s.answers with _ | ⟨a, rest⟩
  · simp [h] at ha
  · cases a
    · exact readAnswered_of_ok (by rw [h]; rfl) hn
    · exact readAnswered_of_fail (by rw [h]; rfl)

/-- A supplied framer can not move only when its operation is done. -/
theorem Supplied.done_of_still {s : State} (h : Supplied s) (horder : Orderly s)
    (still : canMove s = false) : s.done = true := by
  cases hp : s.phase with
  | idle => simpa [Supplied, hp] using h
  | check => simp [canMove, hp] at still
  | write =>
    simp only [Supplied, hp] at h
    simp only [canMove, hp, writeAnswered, Bool.not_eq_false', List.isEmpty_iff] at still
    simp [still] at h
  | fill =>
    simp only [Supplied, hp] at h
    have hfit : (readLen s.cfg s.opsel).getD 0 ≤ bufLen s.cfg := by
      cases hop : readLen s.cfg s.opsel with
      | none => exact Nat.zero_le _
      | some n => exact readLen_le_bufLen hop
    rw [canMove, hp] at still
    cases still.symm.trans (readAnswered_of_length (by omega) (by omega))
  | refill =>
    have hlt := horder.refillBound hp
    simp only [Supplied, hp] at h
    rw [canMove, hp] at still
    cases still.symm.trans (readAnswered_of_length (n := 1) (by omega) (by omega))

/-! ### Answers and bytes that arrive later -/

section
variable (more : List Answer) (bytes : List Byte)

/-- A failed read loses the same bytes of the stream before and after more of it arrives. -/
theorem failedRead_supply (n : Nat) {s : State} {a : Answer} (ha : s.answers.head? = some a) :
    failedRead n (supply more bytes s) = supply more bytes (failedRead n s) := by
  obtain ⟨rest, ha⟩ := List.head?_eq_some_iff.mp ha
  have hdraw : drawUpTo n (supply more bytes s) = drawUpTo n s := rfl
  simp only [failedRead, hdraw]
  simp [supply, receive, ha, List.drop_append]
  omega

/-- A read takes the same bytes before and after more of them arrive. -/
theorem takenRead_supply {n : Nat} {s : State} {a : Answer} (ha : s.answers.head? = some a)
    (hn : n ≤ s.inbound.length) :
    takenRead n (supply more bytes s) = supply more bytes (takenRead n s) := by
  obtain ⟨rest, ha⟩ := List.head?_eq_some_iff.mp ha
  simp [takenRead, supply, receive, ha, List.drop_append_of_le_length hn]

/-- A failed write sends the same before and after. -/
theorem failedWrite_supply (pkt : List Byte) {s : State} {a : Answer}
    (ha : s.answers.head? = some a) :
    failedWrite pkt (supply more bytes s) = supply more bytes (failedWrite pkt s) := by
  obtain ⟨rest, ha⟩ := List.head?_eq_some_iff.mp ha
  have hdraw : drawUpTo pkt.length (supply more bytes s) = drawUpTo pkt.length s := rfl
  simp only [failedWrite, hdraw]
  simp [supply, receive, ha]

/-- A write sends the same before and after. -/
theorem sentWrite_supply (pkt : List Byte) {s : State} {a : Answer}
    (ha : s.answers.head? = some a) :
    sentWrite pkt (supply more bytes s) = supply more bytes (sentWrite pkt s) := by
  obtain ⟨rest, ha⟩ := List.head?_eq_some_iff.mp ha
  simp [sentWrite, supply, receive, ha]

/-- The answer at the head stays there. -/
theorem head?_supply {s : State} {a : Answer} (ha : s.answers.head? = some a) :
    (supply more bytes s).answers.head? = some a := by
  simp [ha]

/-- The bytes that are there stay the first ones. -/
theorem take_inbound_supply {n : Nat} {s : State} (hn : n ≤ s.inbound.length) :
    n ≤ (supply more bytes s).inbound.length ∧
      (supply more bytes s).inbound.take n = s.inbound.take n := by
  rw [supply_inbound, List.length_append, List.take_append_of_le_length hn]
  exact ⟨by omega, rfl⟩

/-- A move that can be made comes to the same before and after more arrives. -/
theorem Moved.after_supply {s t : State} (m : Moved s t) (hm : canMove s = true) :
    Moved (supply more bytes s) (supply more bytes t) := by
  cases m with
  | stays _ still => cases still.symm.trans hm
  | unwritten hp hop ha =>
    have m' := Moved.unwritten (s := supply more bytes s) hp hop (head?_supply more bytes ha)
    rwa [failedWrite_supply more bytes _ ha] at m'
  | written hp hop ha =>
    have m' := Moved.written (s := supply more bytes s) hp hop (head?_supply more bytes ha)
    rwa [sentWrite_supply more bytes _ ha] at m'
  | unfilled hp hop ha =>
    have m' := Moved.unfilled (s := supply more bytes s) hp hop (head?_supply more bytes ha)
    rwa [failedRead_supply more bytes _ ha] at m'
  | filled hp hop ha hn =>
    obtain ⟨hn', htake⟩ := take_inbound_supply more bytes hn
    have m' := Moved.filled (s := supply more bytes s) hp hop (head?_supply more bytes ha) hn'
    rw [htake, takenRead_supply more bytes ha hn, afterFill_eq] at m'
    rwa [afterFill_eq]
  | checked hp hr => exact .checked hp hr
  | asked hp ho hr => exact .asked hp ho hr
  | unshifted hp ho ha =>
    have m' := Moved.unshifted (s := supply more bytes s) hp ho (head?_supply more bytes ha)
    rwa [failedRead_supply more bytes _ ha] at m'
  | shifted hp ho ha hn =>
    obtain ⟨hn', htake⟩ := take_inbound_supply more bytes hn
    have m' := Moved.shifted (s := supply more bytes s) hp ho (head?_supply more bytes ha) hn'
    rwa [htake, takenRead_supply more bytes ha hn] at m'

/-- Good order does not depend on what has arrived. -/
theorem Orderly.after_supply {s : State} (h : Orderly s) : Orderly (supply more bytes s) :=
  h.inWorld (supply more bytes s)

/-- The moves that were made are made after more has arrived too, and count among those that an operation
has. -/
theorem moves_supply {n : Nat} {s t : State} (h : Orderly s) (hm : moves n s = .next t) :
    ∃ m, moves m (supply more bytes s) = .next (supply more bytes t) ∧
      movesLeft t + m ≤ movesLeft s := by
  induction n generalizing s with
  | zero =>
    cases hm
    exact ⟨0, rfl, le_rfl⟩
  | succ n ih =>
    cases hcan : canMove s with
    | false =>
      rw [moves_still h hcan] at hm
      cases hm
      exact ⟨0, rfl, le_rfl⟩
    | true =>
      obtain ⟨v, hv, hrest⟩ := moves_succ_next hm
      have m := moved_of_resume hv
      have hlt := m.movesLeft_lt h hcan
      obtain ⟨k, hk, hle⟩ := ih (h.keep s v m) hrest
      exact ⟨k + 1, ((m.after_supply more bytes hcan).moves_succ k).trans hk, by omega⟩

/-- More moves than an operation has left come to the same from its later states. -/
theorem moves_supply_eq {n : Nat} {s t : State} (h : Orderly s) (hn : movesLeft s ≤ n)
    (hm : moves n s = .next t) :
    moves n (supply more bytes s) = moves n (supply more bytes t) := by
  have hlast := moved_induct Orderly.keep h hm
  obtain ⟨m, hsupplied, hle⟩ := moves_supply more bytes h hm
  obtain ⟨k, rfl⟩ := Nat.exists_eq_add_of_le (show m ≤ n by omega)
  have hleft : movesLeft (supply more bytes t) ≤ k := by
    show movesLeft t ≤ k
    omega
  rw [moves_add hsupplied,
    moves_eq_of_movesLeft_le (hlast.after_supply more bytes) hleft (Nat.le_add_left k m)]

/-- The operands of a START do not depend on what has arrived. -/
theorem startOperands_supply (i : Instr) (s : State) :
    startOperands i (supply more bytes s) = startOperands i s := by
  cases i <;> rfl

/-- START comes to the same before and after more has arrived. -/
theorem started_supply (op : OpSel) (x : Operands) (s : State) :
    started op x (supply more bytes s) = supply more bytes (started op x s) := by
  cases op <;> cases x <;> rfl

end

/-! ### The statements -/

/-- Settles O52: after the moves it has, an operation can not move, and with all its transactions answered
it is then done. -/
theorem answeredOperationsFinish : Obligations.AnsweredOperationsFinish := by
  intro i op s hb hp hans hin
  have horder := orderly_start op (startOperands i s) s
  have hsupplied : Supplied (started op (startOperands i s) s) := by
    cases hop : firstPhase op with
    | idle => exact absurd hop (firstPhase_of_begins hb)
    | write => simp [Supplied, hop]; omega
    | fill => simp [Supplied, hop, hans, hin]
    | check | refill => cases op <;> cases hop
  obtain ⟨t, hmoves, hlast, still⟩ := exists_moves_still horder (movesLeft_started op _ s)
  have hdone := (moved_induct (fun _ _ h m => Supplied.keep h m) hsupplied hmoves).done_of_still
    hlast still
  refine ⟨_, t, exec_begins_idle hb hp, ?_, hdone, hlast.doneIdle hdone⟩
  rw [operate, prepare_cfg]
  exact hmoves

/-- Settles O7: each move that can be made commutes with what arrives, and so do the moves of an operation,
which has none left after those that `operate` makes. -/
theorem lateAnswersChangeNothing : Obligations.LateAnswersChangeNothing := by
  constructor
  · intro s t more bytes hcan h
    exact ((moved_of_resume h).after_supply more bytes hcan).resume_eq
  · intro i op s u t more bytes hb hexec hop
    have hp := (exec_begins_next hb hexec).1
    cases hexec.symm.trans (exec_begins_idle hb hp)
    have hcfg := (sameLatches_of_moves hop).cfg
    constructor
    · rw [exec_begins_idle hb (s := supply more bytes s) hp, startOperands_supply]
      exact congrArg _ (started_supply more bytes op _ s)
    · have hmoves := moves_supply_eq more bytes (orderly_start op _ s) (movesLeft_started op _ s)
        (by simpa [operate] using hop)
      simpa [operate, hcfg] using hmoves

end Sys2Proof.Machine
end

section
/-! Nothing is carried over (rule R47): an operation run twice from states that differ in the bytes of BUF
which it has not written makes the same moves, and the two states differ in such bytes alone. -/

namespace Sys2Proof.Machine

/-- `s` with other bytes in BUF. -/
def withBuf (b : List Byte) (s : State) : State := { s with buf := b }

/-- How many bytes of BUF the operation has written: its packet from START on when it writes, and from its
first answered read on when it reads (rules R34, R45). -/
def writtenBytes (s : State) : Nat :=
  match s.opsel with
  | .wrcmd => bareLen
  | .wrarg => argpktLen
  | op => if s.consumed = 0 then 0 else (readLen s.cfg op).getD 0

/-- `b` agrees with BUF in the bytes that the operation has written, and these are the whole packet by the
time it is checked. -/
structure Agrees (b : List Byte) (s : State) : Prop where
  written : b.take (writtenBytes s) = s.buf.take (writtenBytes s)
  taken : s.phase = .check ∨ s.phase = .refill → s.consumed ≠ 0

theorem writtenBytes_of_wrcmd {s : State} (hop : s.opsel = .wrcmd) : writtenBytes s = 3 := by
  simp only [writtenBytes, hop, bareLen]

theorem writtenBytes_of_wrarg {s : State} (hop : s.opsel = .wrarg) : writtenBytes s = 5 := by
  simp only [writtenBytes, hop, argpktLen]

/-- Once a read is answered, a read operation has written its packet. -/
theorem writtenBytes_of_readLen {s : State} {n : Nat} (hop : readLen s.cfg s.opsel = some n)
    (hc : s.consumed ≠ 0) : writtenBytes s = n := by
  unfold writtenBytes
  split <;> simp_all [readLen]

/-- The packet that is checked agrees. -/
theorem Agrees.checkedPacket {b : List Byte} {s : State} (h : Agrees b s)
    (hp : s.phase = .check ∨ s.phase = .refill) {n : Nat} (hop : readLen s.cfg s.opsel = some n) :
    b.take n = s.buf.take n := by
  have hw := h.written
  rwa [writtenBytes_of_readLen hop (h.taken hp)] at hw

/-- The checks read the packet alone. -/
theorem checkResult_withBuf {b : List Byte} {s : State}
    (h : ∀ n, readLen s.cfg s.opsel = some n → b.take n = s.buf.take n) :
    checkResult (withBuf b s) = checkResult s := by
  have hchk (hop : readLen s.cfg s.opsel = some 5) : hdrChkOk b = hdrChkOk s.buf := by
    rw [← hdrChkOk_take b, h 5 hop, hdrChkOk_take]
  have hecho {n : Nat} (h2 : 2 ≤ n) (hop : readLen s.cfg s.opsel = some n) :
      echoOk b s.code0 s.code1 = echoOk s.buf s.code0 s.code1 := by
    rw [← echoOk_take h2 b, h n hop, echoOk_take h2]
  cases ho : s.opsel <;> rw [ho] at hchk hecho h <;>
    simp only [checkResult, withBuf, ho, responseStatus, infoStatus, window]
  · rw [hchk rfl, hecho (by decide) rfl]
  · rw [hchk rfl, hecho (by decide) rfl]
  · rw [h _ rfl]
    rfl
  · rw [hecho (Nat.le_add_left 2 _) rfl]
  · rw [hecho (Nat.le_add_left 2 _) rfl]

/-- So does the end. -/
theorem finish_withBuf {b : List Byte} {st : Status} {s : State}
    (h : st = .ok → ∀ n, readLen s.cfg s.opsel = some n → b.take n = s.buf.take n) :
    finish st (withBuf b s) = withBuf b (finish st s) := by
  by_cases hst : st = .ok
  · cases hop : readLen s.cfg s.opsel with
    | none => simp [finish, withBuf, hop]
    | some n => simp [finish, withBuf, hop, h hst n hop]
  · rw [finish_error hst, finish_error hst]
    rfl

/-- The next window agrees when the window does. -/
theorem shiftIn_agrees {b : List Byte} {s : State}
    (h : b.take (recordLen s.cfg) = s.buf.take (recordLen s.cfg)) (x : Byte) :
    (shiftIn x (withBuf b s)).buf.take (recordLen s.cfg) =
      (shiftIn x s).buf.take (recordLen s.cfg) := by
  have hone := one_le_recordLen s.cfg
  have hlength := congrArg List.length h
  rw [List.length_take, List.length_take] at hlength
  show ((b.take (recordLen s.cfg)).drop 1 ++ [x] ++ b.drop (recordLen s.cfg)).take _ =
    ((s.buf.take (recordLen s.cfg)).drop 1 ++ [x] ++ s.buf.drop (recordLen s.cfg)).take _
  rw [h]
  by_cases hfull : recordLen s.cfg ≤ s.buf.length
  · have hwin : ((s.buf.take (recordLen s.cfg)).drop 1 ++ [x]).length = recordLen s.cfg := by
      simp
      omega
    rw [List.take_left' hwin, List.take_left' hwin]
  · have hb : b.drop (recordLen s.cfg) = [] := List.drop_eq_nil_of_le (by omega)
    have hbuf : s.buf.drop (recordLen s.cfg) = [] := List.drop_eq_nil_of_le (by omega)
    rw [hb, hbuf]

/-- A read operation's packet has a byte. -/
theorem one_le_readLen {cfg : Config} {op : OpSel} {n : Nat} (h : readLen cfg op = some n) :
    1 ≤ n := by
  cases op <;> cases h
  case rdscan => exact one_le_recordLen cfg
  case rdhdr | rdprm => decide
  all_goals exact Nat.le_add_left 1 _

/-- Each move is made from the other bytes too, and the bytes it comes to agree. -/
theorem Agrees.keep {b : List Byte} {s t : State} (h : Agrees b s) (m : Moved s t) :
    ∃ b', Moved (withBuf b s) (withBuf b' t) ∧ Agrees b' t := by
  cases m with
  | stays fit still => exact ⟨b, .stays fit still, h⟩
  | unwritten hp hop ha =>
    obtain ⟨-, -, hne⟩ := mayFinishWith_of_firstPhase (op := s.opsel) (by simp [hop])
    have hend := finish_withBuf (b := b) (s := failedWrite (packet s) s) (absurd · hne)
    exact ⟨b, hend ▸ .unwritten (s := withBuf b s) hp hop ha, h.written, nofun⟩
  | written hp hop ha =>
    have hend := finish_withBuf (b := b) (s := sentWrite (packet s) s) (st := .ok)
      fun _ n hn => nomatch hop.symm.trans (firstPhase_of_readLen hn)
    exact ⟨b, hend ▸ .written (s := withBuf b s) hp hop ha, h.written, nofun⟩
  | @unfilled n hp hop ha =>
    obtain ⟨-, -, hne⟩ := mayFinishWith_of_firstPhase (op := s.opsel)
      (by simp [firstPhase_of_readLen hop])
    have hend := finish_withBuf (b := b) (s := failedRead n s) (absurd · hne)
    exact ⟨b, hend ▸ .unfilled (s := withBuf b s) hp hop ha, h.written, nofun⟩
  | @filled n hp hop ha hn =>
    have hone := one_le_readLen hop
    have hlen : (s.inbound.take n).length = n := List.length_take_of_le hn
    have m' := Moved.filled (s := withBuf b s) hp hop ha hn
    rw [afterFill_eq] at m' ⊢
    have hc : s.consumed + n ≠ 0 := by omega
    refine ⟨_, m', ?_, fun _ => hc⟩
    rw [writtenBytes_of_readLen (n := n)]
    · exact (List.take_left' hlen).trans (List.take_left' hlen).symm
    · exact hop
    · exact hc
  | checked hp hr =>
    have m' := Moved.checked (s := withBuf b s) hp
      ((checkResult_withBuf fun _ => h.checkedPacket (.inl hp)).trans hr)
    rw [finish_withBuf fun _ _ => h.checkedPacket (.inl hp)] at m'
    exact ⟨b, m', h.written, nofun⟩
  | asked hp ho hr =>
    exact ⟨b, .asked hp ho ((checkResult_withBuf fun _ => h.checkedPacket (.inl hp)).trans hr), h.written,
      fun _ => h.taken (.inl hp)⟩
  | unshifted hp ho ha =>
    have hend := finish_withBuf (b := b) (s := failedRead 1 s) (st := .scanRead) nofun
    exact ⟨b, hend ▸ .unshifted (s := withBuf b s) hp ho ha, h.written, nofun⟩
  | shifted hp ho ha hn =>
    have hop : readLen s.cfg s.opsel = some (recordLen s.cfg) := by rw [ho]; rfl
    have m' := Moved.shifted (s := withBuf b s) hp ho ha hn
    have hc : s.consumed + 1 ≠ 0 := by omega
    refine ⟨_, m', ?_, fun _ => hc⟩
    rw [writtenBytes_of_readLen (n := recordLen s.cfg)]
    · exact shiftIn_agrees (s := takenRead 1 s) (h.checkedPacket (.inr hp) hop) _
    · exact hop
    · exact hc

/-- So are several. -/
theorem Agrees.moves {b : List Byte} {n : Nat} {s t : State} (h : Agrees b s)
    (hm : moves n s = .next t) :
    ∃ b', moves n (withBuf b s) = .next (withBuf b' t) ∧ Agrees b' t := by
  induction n generalizing s b with
  | zero =>
    cases hm
    exact ⟨b, rfl, h⟩
  | succ n ih =>
    obtain ⟨v, hv, hrest⟩ := moves_succ_next hm
    obtain ⟨b₁, m, h₁⟩ := h.keep (moved_of_resume hv)
    obtain ⟨b₂, hmoves, h₂⟩ := ih h₁ hrest
    exact ⟨b₂, (m.moves_succ n).trans hmoves, h₂⟩

/-- START from other leftovers differs in BUF alone, and there in no byte of a packet it writes. -/
theorem started_withLeftovers (op : OpSel) (x : Operands) (junk s : State) :
    ∃ b, started op x (withLeftovers junk s) = withBuf b (started op x s) ∧
      Agrees b (started op x s) := by
  refine ⟨(started op x (withLeftovers junk s)).buf, ?_, ?_, ?_⟩
  · cases op <;> cases x <;> rfl
  · cases op <;> cases x <;> rfl
  · cases op <;> simp [firstPhase]

/-- The operands of a START are not among the leftovers. -/
theorem startOperands_withLeftovers (i : Instr) (junk s : State) :
    startOperands i (withLeftovers junk s) = startOperands i s := by
  cases i <;> rfl

/-! ### The statement -/

/-- Settles O17: after START only BUF's bytes that are not the operation's differ, and its moves read none
of them. -/
theorem nothingIsCarriedOver : Obligations.NothingIsCarriedOver := by
  intro i op s junk u t n hb hexec hm
  obtain ⟨hcfg, hop⟩ := sameLatches_of_begun hb hexec hm
  have hp := (exec_begins_next hb hexec).1
  cases hexec.symm.trans (exec_begins_idle hb hp)
  obtain ⟨b, hstart, hagrees⟩ := started_withLeftovers op (startOperands i s) junk s
  obtain ⟨b', hmoves, h⟩ := hagrees.moves hm
  have hexec' := exec_begins_idle hb (s := withLeftovers junk s) hp
  rw [startOperands_withLeftovers] at hexec'
  refine ⟨_, b', hexec'.trans (congrArg _ hstart), hmoves, ?_, ?_, ?_⟩
  · rintro rfl
    exact writtenBytes_of_wrcmd hop ▸ h.written
  · rintro rfl
    exact writtenBytes_of_wrarg hop ▸ h.written
  · intro m hlen hc
    exact writtenBytes_of_readLen (by rw [hcfg, hop, hlen]) hc ▸ h.written

end Sys2Proof.Machine
end

section
/-! The block's reset, the table of outcomes and the source's round trip (rules R51, R201, R217, R218,
R235). -/

namespace Sys2Proof.Machine

/-! ### What a reset does with an outstanding transaction (rule R51) -/

section
variable {s : State}

/-- Without one there is nothing to abandon. -/
theorem abandon_of_none (hp : s.phase = .idle ∨ s.phase = .check) : abandon s = s := by
  obtain hp | hp := hp <;> simp only [abandon, hp]

/-- The write of WRCMD comes to what a failed one comes to. -/
theorem abandon_wrcmd (hp : s.phase = .write) (ho : s.opsel = .wrcmd) :
    abandon s = failedWrite (packBare s.code0 s.code1) s := by
  simp only [abandon, hp, ho]

/-- The write of WRARG comes to what a failed one comes to. -/
theorem abandon_wrarg (hp : s.phase = .write) (ho : s.opsel = .wrarg) :
    abandon s = failedWrite (packArgpkt s.code0 s.code1 s.arg0 s.arg1) s := by
  simp only [abandon, hp, ho]

/-- A first read comes to what a failed one comes to. -/
theorem abandon_fill {n : Nat} (hp : s.phase = .fill) (hop : readLen s.cfg s.opsel = some n) :
    abandon s = failedRead n s := by
  revert hop
  cases ho : s.opsel <;> intro hop <;> cases hop <;> simp only [abandon, hp, ho]

/-- A refill comes to what a failed one comes to. -/
theorem abandon_refill (hp : s.phase = .refill) (ho : s.opsel = .rdscan) :
    abandon s = failedRead 1 s := by
  simp only [abandon, hp, ho]

end

/-- The host's step resets the block. -/
theorem step_reset {s : State} {rest : List HostInput} (hn : nextAgent s = some .host)
    (hprog : s.program = .reset :: rest) :
    step s = .next (clearRegisters (abandon { passTurn s with program := rest })) :=
  step_host hn hprog

/-! ### The table of outcomes (rule R217) -/

/-- The outcomes in the order of their numbers. -/
def outcomesByNumber : List Status :=
  [.ok, .writeCmd, .writeArgs, .readHeader, .headerChecksum, .headerCmd, .readParam, .paramChecksum,
    .paramCmd, .scanRead, .scanBound, .readMotor, .motorCmd, .readRate, .rateCmd]

/-- An outcome is found in the table by its number. -/
theorem outcomesByNumber_statusCode (a : Status) : outcomesByNumber[(statusCode a).toNat]? = some a := by
  cases a <;> rfl

/-- The message that the host reads is the table's, once the operation has finished. -/
theorem hostReadMessage_eq_next {s : State} {m : String} :
    hostReadMessage s = .next m ↔ s.done = true ∧ message s.status = some m := by
  unfold hostReadMessage
  split <;> simp_all

/-- Before that, and after a success, there is none. -/
theorem hostReadMessage_eq_refused {s : State} (h : s.done = false ∨ s.status = .ok) :
    hostReadMessage s = .refused .noMessage := by
  unfold hostReadMessage
  obtain h | h := h
  · simp [h]
  · simp [h, message]

/-! ### An acknowledged command (rules R145, R245) -/

/-- WRCMD from the host's ports sends them and leaves the host, the inbound stream and the other answers
as they were. -/
theorem wrcmd_ports_sent {s : State} {rest : List Answer} (hp : s.phase = .idle)
    (ha : s.answers = .ok :: rest) :
    ∃ u t, exec (.wrcmd .ports) s = .next u ∧ moves 1 u = .next t ∧
      t.status = .ok ∧ t.done = true ∧
      t.outbound = s.outbound ++ [s.hostCode0, s.hostCode1, 0x0A#8] ∧
      t.phase = .idle ∧ t.answers = rest ∧ t.inbound = s.inbound ∧ t.skip = s.skip ∧
      t.hostCode0 = s.hostCode0 ∧ t.hostCode1 = s.hostCode1 := by
  obtain ⟨u, hexec, hmoves⟩ := wrcmdSendsABarePacket .ports s rest hp ha
  exact ⟨u, _, hexec, hmoves, rfl, rfl, rfl, rfl, rfl, rfl, rfl, rfl, rfl⟩

/-- RDHDR from the host's ports waits for a response, and takes one with its echo and the right checksum,
whose bytes the host then reads. -/
theorem rdhdr_awaits_response {s : State} {p q k : Byte} (hp : s.phase = .idle)
    (ha : s.answers = [.ok]) (hin : s.inbound = []) (hskip : s.skip = 0) (hk : k.toNat = hdrChk p q) :
    ∃ u v t, exec (.rdhdr .ports) s = .next u ∧ u.phase = .fill ∧ u.done = false ∧ canMove u = false ∧
      exec (.hdr s.hostCode0 s.hostCode1 p q k) u = .next v ∧ canMove v = true ∧
      moves 2 v = .next t ∧ t.done = true ∧ t.status = .ok ∧
      hostReadRes t = .next [s.hostCode0, s.hostCode1, p, q, k] ∧
      t.outbound = s.outbound ∧ t.inbound = [] := by
  have harrived : (receive [s.hostCode0, s.hostCode1, p, q, k] s).inbound =
      [s.hostCode0, s.hostCode1, p, q, k] ++ [] := by
    rw [receive_inbound, hin, hskip]
    rfl
  have hdecides := ResponseDecoder.rdhdr.decides (x := .ports) (rest := [])
    (s := receive [s.hostCode0, s.hostCode1, p, q, k] s) ha harrived
  rw [if_neg (not_not.mpr hk), if_neg (not_not.mpr ⟨rfl, rfl⟩)] at hdecides
  refine ⟨latch .rdhdr .ports s, latch .rdhdr .ports (receive [s.hostCode0, s.hostCode1, p, q, k] s), _,
    startThen_idle hp, rfl, rfl, ?_, rfl, ?_, hdecides, rfl, rfl, rfl, rfl, rfl⟩
  · simp [canMove, firstPhase, readAnswered, ha, hin, readLen, headerLen]
  · simp [canMove, firstPhase, readAnswered, ha, hin, hskip, readLen, headerLen]

/-! ### The statements -/

/-- Settles O57: the reset state written out. -/
theorem resetLeavesTheFramerIdle : Obligations.ResetLeavesTheFramerIdle :=
  ⟨rfl, rfl, rfl, rfl, rfl, rfl, rfl⟩

/-- Settles O58: by phase, what the reset abandons, and then the registers cleared. -/
theorem resetInputAbandonsTheOperation : Obligations.ResetInputAbandonsTheOperation := by
  intro s rest hn hprog cleared
  rw [step_reset hn hprog]
  refine ⟨fun hp => ?_, fun hp ho => ?_, fun hp ho => ?_, fun n hp hop => ?_, fun hp ho => ?_⟩
  · rw [abandon_of_none (s := { passTurn s with program := rest }) hp]
    rfl
  · rw [abandon_wrcmd (s := { passTurn s with program := rest }) hp ho]
    exact ⟨drawUpTo 3 s, drawUpTo_le 3 s, rfl⟩
  · rw [abandon_wrarg (s := { passTurn s with program := rest }) hp ho]
    exact ⟨drawUpTo 5 s, drawUpTo_le 5 s, rfl⟩
  · rw [abandon_fill (s := { passTurn s with program := rest }) hp hop]
    exact ⟨drawUpTo n s, drawUpTo_le n s, rfl⟩
  · rw [abandon_refill (s := { passTurn s with program := rest }) hp ho]
    exact ⟨drawUpTo 1 s, drawUpTo_le 1 s, rfl⟩

/-- Settles O60: the table row by row, its numbers by the inverse, and the host's reading of a
message. -/
theorem statusTable : Obligations.StatusTable := by
  refine ⟨?_, fun a b h => ?_, fun s m => hostReadMessage_eq_next, fun s => hostReadMessage_eq_refused⟩
  · simp [statusCode, errorKind, message]
  · have ha := outcomesByNumber_statusCode a
    rw [h, outcomesByNumber_statusCode b] at ha
    exact (Option.some.inj ha).symm

/-- Settles O56: the constant's packet is written, and the response with its echo is awaited and read. -/
theorem commandRoundTrip : Obligations.CommandRoundTrip := by
  intro s p q k hp ha hin hskip hk
  obtain ⟨s2, s3, hexec, hmoves, hst3, hdone3, hout3, hp3, ha3, hin3, hskip3, hc0, hc1⟩ :=
    wrcmd_ports_sent (s := selectCode 0x44#8 0x53#8 s) (rest := [.ok]) hp ha
  obtain ⟨s4, s5, s6, hstart, hfill, hbusy, hwait, harrive, hcan, hread, hdone, hst, hres, hout, hleft⟩ :=
    rdhdr_awaits_response hp3 ha3 (hin3.trans hin) (hskip3.trans hskip) hk
  rw [hc0, hc1, selectCode_hostCode0, selectCode_hostCode1] at harrive hres
  exact ⟨_, s2, s3, s4, s5, s6, rfl, hexec, hmoves, hst3, hdone3, hout3, hstart, hfill, hbusy, hwait,
    harrive, hcan, hread, hdone, hst, hres, rfl, rfl, hout, hleft⟩

end Sys2Proof.Machine
end
